-- ==== Sys2Proof/Word.lean ====
section
/-! DEFINITION. The words of the PilotCPU (spec/00_scope.md R6, R12). -/

namespace Sys2Proof

/-- An 8-bit register, port or memory byte. -/
abbrev Byte := BitVec 8

/-- A 16-bit register pair, memory word, offset or instruction word. -/
abbrev Word := BitVec 16

/-- A 24-bit linear memory address (20_memory.md R60). -/
abbrev Addr := BitVec 24

end Sys2Proof
end

