-- ==== Sys2Proof/Config.lean ====
section
/-! DEFINITION. The values the spec leaves free (00_scope.md R13 `unspecified(N)`). They have no body, so no proof can
see what they are. -/

namespace Sys2Proof

/-- The free values: the n-th draw of an unspecified value of at most 16 bits. State's counter `fresh` makes every
draw a new one (00_scope.md R13; log 9). -/
opaque Config.unspecified : Nat → Word

/-- What memory holds after an external reset: "whatever the platform's memory holds" (10_state.md R45; log 6). The
argument is the counter `fresh` at the reset. Keys are reduced to 24 bits where they are used. -/
opaque Config.memoryAfterReset : Nat → List (Nat × Byte)

end Sys2Proof
end

