-- ==== Sys2Proof/Syntax.lean ====
section
/-! DEFINITION. The instructions of the PilotCPU: one constructor of `Instr` for each row of spec/opcode_table.json,
over the operands of 30_encoding.md. -/

namespace Sys2Proof

/-- The 8-bit registers an RM code can name (30_encoding.md R104: `R8[0..7]`). -/
inductive Reg8 | a | b | h | l | i | x | d | s
  deriving DecidableEq, Repr

/-- The 16-bit registers an RM code can name (30_encoding.md R104). -/
inductive Reg16 | ab | hl | ix | ds | sp
  deriving DecidableEq, Repr

/-- The read-only pseudo-registers (10_state.md R24). -/
inductive Pseudo | asx | bsx | azx
  deriving DecidableEq, Repr

/-- The 8-bit accumulator field (30_encoding.md R104: 0 A, 1 B). -/
inductive Acc8 | a | b
  deriving DecidableEq, Repr

/-- The 16-bit accumulator field (30_encoding.md R104: 0 AB, 1 HL). -/
inductive Acc16 | ab | hl
  deriving DecidableEq, Repr

/-- The counter of `REPI r` (30_encoding.md R104: 0 A, 1 B, 2 H, 3 L). -/
inductive RepReg | a | b | h | l
  deriving DecidableEq, Repr

/-- Where a memory mode's base comes from: bank $00, or the data segment of the "DS:" modes (20_memory.md R69, R70). -/
inductive Seg | bank0 | ds
  deriving DecidableEq, Repr

/-- The direction of an auto-index (20_memory.md R75). -/
inductive Dir | inc | dec
  deriving DecidableEq, Repr

/-- The pointers an RM auto-index can use (20_memory.md R75). -/
inductive IndexReg | hl | ix
  deriving DecidableEq, Repr

/-- The RM memory modes without auto-index (20_memory.md R75); these are exactly the operands of class m24
(30_encoding.md R105). -/
inductive PlainMem
  /-- `[AB]`, `DS:[AB]` -/
  | ab (seg : Seg)
  /-- `[HL]`, `DS:[HL]` -/
  | hl (seg : Seg)
  /-- `[IX]`, `DS:[IX]` -/
  | ix (seg : Seg)
  /-- `[DS]`: the pair as a pointer into bank $00 -/
  | dsPair
  /-- `[$00xxxx]` -/
  | direct0 (addr : Word)
  /-- `[$01xxxx]` -/
  | direct1 (addr : Word)
  /-- `DS:[$xxxx]` -/
  | directDs (addr : Word)
  /-- `[IX+imm]`, `DS:[IX+imm]` -/
  | ixDisp (seg : Seg) (imm : Word)
  /-- `[SP+imm]` -/
  | spDisp (imm : Word)
  deriving DecidableEq, Repr

/-- The RM memory modes (20_memory.md R75). -/
inductive Mem
  | plain (m : PlainMem)
  /-- `[HL+]`, `[HL-]`, `[IX+]`, `[IX-]` and their "DS:" forms -/
  | auto (seg : Seg) (ptr : IndexReg) (dir : Dir)
  deriving DecidableEq, Repr

/-- An rm8 operand in destination position: no immediate (30_encoding.md R105). -/
inductive Loc8
  | reg (r : Reg8)
  | mem (m : Mem)
  deriving DecidableEq, Repr

/-- An rm8 operand in source position (30_encoding.md R105). -/
inductive Src8
  | imm (v : Byte)
  | loc (l : Loc8)
  deriving DecidableEq, Repr

/-- An rm16 operand in destination position: no immediate, no pseudo-register (30_encoding.md R105). -/
inductive Loc16
  | reg (r : Reg16)
  | mem (m : Mem)
  deriving DecidableEq, Repr

/-- An rm16 operand in source position (30_encoding.md R105). -/
inductive Src16
  | imm (v : Word)
  | pseudo (p : Pseudo)
  | loc (l : Loc16)
  deriving DecidableEq, Repr

/-- The ZM operands (30_encoding.md R107, 20_memory.md R76). -/
inductive Zm
  /-- `[Zn+]`, `[Zn-]`, `DS:[Zn+]`, `DS:[Zn-]` -/
  | auto (seg : Seg) (n : BitVec 4) (dir : Dir)
  /-- `[Zn+IX]`, `DS:[Zn+IX]` -/
  | plusIx (seg : Seg) (n : BitVec 4)
  /-- `[Zn]`, `DS:[Zn]` -/
  | ptr (seg : Seg) (n : BitVec 4)
  /-- `[IX+uimm5]`, `DS:[IX+uimm5]` -/
  | ixDisp (seg : Seg) (u : BitVec 5)
  /-- `[SP+uimm5]` -/
  | spDisp (u : BitVec 5)
  /-- `ZnL` in an 8-bit LD, `Zn` in a 16-bit LD -/
  | low (n : BitVec 4)
  /-- `ZnH`; unassigned in a 16-bit LD -/
  | high (n : BitVec 4)
  deriving DecidableEq, Repr

/-- The condition codes 0 to 14 (30_encoding.md R110); code 15 is not a condition (R111). -/
inductive Cond | lt | ge | le | gt | ule | ugt | z | nz | m | p | pe | po | c | nc | always
  deriving DecidableEq, Repr

/-- The register list of EXS (40_misc_system.md R141). -/
structure RegList where
  f : Bool
  c : Bool
  d : Bool
  s : Bool
  i : Bool
  x : Bool
  h : Bool
  l : Bool
  a : Bool
  b : Bool
  deriving DecidableEq, Repr

/-- The instructions. Operand order is the assembler's: destination, then source (30_encoding.md R125). `Imm8`, `Src8`,
`Dst8` and their 16-bit variants are the six forms of 47_alu.md R280: accumulator and immediate, accumulator and RM
source, RM destination and accumulator. -/
inductive Instr
  -- 40_misc_system.md, 48_control.md R301, R302
  | nop
  | exs (list : RegList)
  | djnz8 (r : Acc8) (pcr8 : Byte)
  | djnz16 (r : Acc16) (pcr8 : Byte)
  | halt
  | stop
  | ccf
  | sds
  | daa
  | sao
  | das
  | sau
  | repiReg (r : RepReg)
  | repiImm (field : BitVec 4)
  -- 41_effective_address.md
  | ldpca (dst : Loc16) (pcr16 : Word)
  | ldixa (dst : Loc16) (simm : Word)
  | ldspa (dst : Loc16) (imm : Word)
  -- 45_load.md R247, 42_muldiv.md, 45_load.md R248, R249
  | ldFromPortInc (dst : Loc8)
  | ldFromF (dst : Loc8)
  | ldFromPort (dst : Loc8)
  | ldFromC (dst : Loc8)
  | ldFromPortDec (dst : Loc8)
  | ldFromE (dst : Loc8)
  | mulu (src : Src8)
  | mulsw (src : Src16)
  | divu (src : Src8)
  | divsw (src : Src16)
  | ldPortInc (src : Src8)
  | ldF (src : Src8)
  | ldPort (src : Src8)
  | ldC (src : Src8)
  | ldPortDec (src : Src8)
  | ldE (src : Src8)
  | resf (mask : Byte)
  | di (mask : Byte)
  | setf (mask : Byte)
  | ei (mask : Byte)
  -- 43_unary.md; `field` is the count less one (30_encoding.md R108)
  | inc (field : BitVec 3) (dst : Loc8)
  | dec (field : BitVec 3) (dst : Loc8)
  | neg (dst : Loc8)
  | cpl (dst : Loc8)
  | ngc (dst : Loc8)
  | clr (dst : Loc8)
  | incw (field : BitVec 3) (dst : Loc16)
  | decw (field : BitVec 3) (dst : Loc16)
  | negw (dst : Loc16)
  | cplw (dst : Loc16)
  | ngcw (dst : Loc16)
  | clrw (dst : Loc16)
  -- 44_shift_bit.md
  | rlc (dst : Loc8)
  | rrc (dst : Loc8)
  | rl (dst : Loc8)
  | rr (dst : Loc8)
  | sla (dst : Loc8)
  | sra (dst : Loc8)
  | swap (dst : Loc8)
  | srl (dst : Loc8)
  | rlcw (dst : Loc16)
  | rrcw (dst : Loc16)
  | rlw (dst : Loc16)
  | rrw (dst : Loc16)
  | slaw (dst : Loc16)
  | sraw (dst : Loc16)
  | swapw (dst : Loc16)
  | srlw (dst : Loc16)
  | bitImmPort (bit : BitVec 3)
  | resImmPort (bit : BitVec 3)
  | setImmPort (bit : BitVec 3)
  | bitImm (bit : BitVec 3) (src : Src8)
  | resImm (bit : BitVec 3) (dst : Loc8)
  | setImm (bit : BitVec 3) (dst : Loc8)
  | bitAccPort (r : Acc8)
  | resAccPort (r : Acc8)
  | setAccPort (r : Acc8)
  | bitAcc (r : Acc8) (src : Src8)
  | resAcc (r : Acc8) (dst : Loc8)
  | setAcc (r : Acc8) (dst : Loc8)
  -- 45_load.md R250, R251; 46_stack.md
  | ldCImm (imm : Byte)
  | addCImm (imm : Byte)
  | popF
  | popGpr
  | popAll
  | pop (dst : Loc16)
  | pushKF
  | pushGpr
  | pushAll
  | push (src : Src16)
  -- 45_load.md
  | stZm8 (dst : Zm) (r : Acc8)
  | ldZm8 (r : Acc8) (src : Zm)
  | stZm16 (dst : Zm) (r : Acc16)
  | ldZm16 (r : Acc16) (src : Zm)
  | ld (dst : Loc8) (src : Src8)
  | ldw (dst : Loc16) (src : Src16)
  | ldRegImm (r : Reg8) (imm : Byte)
  -- 47_alu.md
  | addImm8 (r : Acc8) (imm : Byte)
  | addSrc8 (r : Acc8) (src : Src8)
  | addDst8 (dst : Loc8) (r : Acc8)
  | addImm16 (r : Acc16) (imm : Byte)
  | addSrc16 (r : Acc16) (src : Src16)
  | addDst16 (dst : Loc16) (r : Acc16)
  | adcImm8 (r : Acc8) (imm : Byte)
  | adcSrc8 (r : Acc8) (src : Src8)
  | adcDst8 (dst : Loc8) (r : Acc8)
  | adcImm16 (r : Acc16) (imm : Byte)
  | adcSrc16 (r : Acc16) (src : Src16)
  | adcDst16 (dst : Loc16) (r : Acc16)
  | subImm8 (r : Acc8) (imm : Byte)
  | subSrc8 (r : Acc8) (src : Src8)
  | subDst8 (dst : Loc8) (r : Acc8)
  | subImm16 (r : Acc16) (imm : Byte)
  | subSrc16 (r : Acc16) (src : Src16)
  | subDst16 (dst : Loc16) (r : Acc16)
  | sbcImm8 (r : Acc8) (imm : Byte)
  | sbcSrc8 (r : Acc8) (src : Src8)
  | sbcDst8 (dst : Loc8) (r : Acc8)
  | sbcImm16 (r : Acc16) (imm : Byte)
  | sbcSrc16 (r : Acc16) (src : Src16)
  | sbcDst16 (dst : Loc16) (r : Acc16)
  | andImm8 (r : Acc8) (imm : Byte)
  | andSrc8 (r : Acc8) (src : Src8)
  | andDst8 (dst : Loc8) (r : Acc8)
  | andImm16 (r : Acc16) (imm : Byte)
  | andSrc16 (r : Acc16) (src : Src16)
  | andDst16 (dst : Loc16) (r : Acc16)
  | xorImm8 (r : Acc8) (imm : Byte)
  | xorSrc8 (r : Acc8) (src : Src8)
  | xorDst8 (dst : Loc8) (r : Acc8)
  | xorImm16 (r : Acc16) (imm : Byte)
  | xorSrc16 (r : Acc16) (src : Src16)
  | xorDst16 (dst : Loc16) (r : Acc16)
  | orImm8 (r : Acc8) (imm : Byte)
  | orSrc8 (r : Acc8) (src : Src8)
  | orDst8 (dst : Loc8) (r : Acc8)
  | orImm16 (r : Acc16) (imm : Byte)
  | orSrc16 (r : Acc16) (src : Src16)
  | orDst16 (dst : Loc16) (r : Acc16)
  | cpImm8 (r : Acc8) (imm : Byte)
  | cpSrc8 (r : Acc8) (src : Src8)
  | cpDst8 (dst : Loc8) (r : Acc8)
  | cpImm16 (r : Acc16) (imm : Byte)
  | cpSrc16 (r : Acc16) (src : Src16)
  | cpDst16 (dst : Loc16) (r : Acc16)
  -- 48_control.md
  | callr (pcr10 : BitVec 10)
  | call (addr : Src16)
  | calld (addr : Src16)
  | callfMem (src : PlainMem)
  | callrl (pcr15 : BitVec 15)
  | callfAbs (bank : Byte) (a16 : Word)
  | rst (num : Byte)
  | reti (int : BitVec 3)
  | jr (cond : Cond) (pcr10 : BitVec 10)
  | jp (cond : Cond) (addr : Src16)
  | jpd (cond : Cond) (addr : Src16)
  | jpfMem (cond : Cond) (src : PlainMem)
  | jrl (cond : Cond) (pcr15 : BitVec 15)
  | jpfAbs (cond : Cond) (bank : Byte) (a16 : Word)
  | ret (cond : Cond)
  | retf (cond : Cond)
  deriving DecidableEq, Repr

end Sys2Proof
end

