-- ==== Sys2Proof/Machine/Params.lean ====
section
/-! DEFINITION. The parameters of the machine (spec/00_scope.md R7, R8) with the spec's defaults: the data `Params`,
which State holds and no instruction writes (logs 36, 37). The parameters `handler(n)` and `ILLEGAL_MODE` are fields of
State of their own; requests, port answers and END are inputs. -/

namespace Sys2Proof.Machine

/-- `ODD_WRITE`: what a write of an odd value to SP or PC does (10_state.md R26, R27, decision D1; logs 23, 37). -/
inductive OddWrite
  /-- the default: bit 0 of the value is discarded -/
  | discard
  /-- the model's other value (DESIGN CHOICE): the write is ignored, the register keeps its value -/
  | keep
  deriving DecidableEq, Repr

/-- `LINEAR_WRAP`: what base plus offset above $FFFFFF gives (20_memory.md R70, decision D2; logs 24, 37). -/
inductive LinearWrap
  /-- the default: the sum truncated to 24 bits -/
  | truncate
  /-- the model's other value (DESIGN CHOICE): such a sum stays in its base's bank, bits 23:16 of the base over bits
  15:0 of the sum -/
  | stayInBank
  deriving DecidableEq, Repr

/-- `MISALIGNED`: what a 16-bit or 24-bit data access at an odd linear address does (20_memory.md R64, decision D3). -/
inductive Misaligned
  /-- the default: `ModelFault(misaligned)` -/
  | fault
  /-- the access is made byte by byte, as if it were even ("split access", decision D3) -/
  | split
  deriving DecidableEq, Repr

/-- `A_ON_AUTOINDEX`: what the A flag takes on a "DS:" auto-index (20_memory.md R82, decision D4; logs 22, 37). -/
inductive AOnAutoIndex
  /-- the default: the carry or borrow out of bit 15 of the pointer update -/
  | carry
  /-- the model's other value (DESIGN CHOICE): a free value, as R83 gives A where the spec leaves A open -/
  | free
  deriving DecidableEq, Repr

/-- `PCR15_LAYOUT`: where the 15-bit offset and its pad bit stand in their extension word (30_encoding.md R106,
decision D9; logs 25, 37). -/
inductive Pcr15Layout
  /-- the default: the offset in bits 15:1, the pad in bit 0 -/
  | high
  /-- the model's other value (DESIGN CHOICE): the offset in bits 14:0, the pad in bit 15 -/
  | low
  deriving DecidableEq, Repr

/-- `PAD_NONZERO`: what a non-zero high byte in the extension word of an 8-bit immediate does (30_encoding.md R106,
decision D11; logs 25, 37). -/
inductive PadNonzero
  /-- the default: an illegal encoding -/
  | illegal
  /-- the model's other value (DESIGN CHOICE): the high byte is ignored -/
  | ignored
  deriving DecidableEq, Repr

/-- `calculateDAA` or `calculateDAS`: (A, H, C) to (A', C') (40_misc_system.md R146, R147, decision D32). -/
inductive Decimal
  /-- the default: the algorithm of the rule -/
  | customary
  /-- any other function, by its 1024 values; entry `4 * A + 2 * H + C` is (A', C') -/
  | table (values : Vector (Byte × Bool) 1024)
  deriving DecidableEq, Repr

/-- `DIVS_ROUNDING`: how the quotient of DIVSW is rounded (42_muldiv.md R183, decision D20). -/
inductive Rounding
  /-- the default: toward zero, the remainder has the dividend's sign -/
  | truncate
  /-- toward minus infinity, the remainder has the divisor's sign -/
  | floor
  /-- the remainder is not negative -/
  | euclid
  deriving DecidableEq, Repr

/-- The parameters of R7 that say how the machine behaves. -/
structure Params where
  /-- `ODD_WRITE` -/
  oddWrite : OddWrite
  /-- `LINEAR_WRAP` -/
  linearWrap : LinearWrap
  /-- `MISALIGNED` -/
  misaligned : Misaligned
  /-- `A_ON_AUTOINDEX` -/
  aOnAutoIndex : AOnAutoIndex
  /-- `H16_BIT`: the bit whose carry sets H in 16-bit arithmetic (decision D8) -/
  h16Bit : Fin 16
  /-- `PARITY_WIDTH`: how many low bits parity covers in 16-bit logic (decision D7) -/
  parityWidth : Fin 17
  /-- `PCR15_LAYOUT` -/
  pcr15Layout : Pcr15Layout
  /-- `PAD_NONZERO` -/
  padNonzero : PadNonzero
  /-- `IRQ_CLEARS_I`: does an entry clear F.I? (60_exceptions.md R334, decision D14) -/
  irqClearsI : Bool
  /-- `IRQ_PRIORITY`: the maskable interrupts that go before the others, the first of them first; the others follow, the
  lowest number first (60_exceptions.md R339, decision D15) -/
  irqFirst : List (Fin 8)
  /-- `RESET_I`: F.I after reset (decision D17) -/
  resetI : Bool
  /-- `RESET_E`: E after reset (decision D17) -/
  resetE : Byte
  /-- `calculateDAA` -/
  daa : Decimal
  /-- `calculateDAS` -/
  das : Decimal
  /-- `DIVS_ROUNDING` -/
  divsRounding : Rounding
  deriving DecidableEq, Repr

/-- The defaults of R7. -/
def Params.default : Params where
  oddWrite := .discard
  linearWrap := .truncate
  misaligned := .fault
  aOnAutoIndex := .carry
  h16Bit := 11
  parityWidth := 16
  pcr15Layout := .high
  padNonzero := .illegal
  irqClearsI := false
  irqFirst := []
  resetI := false
  resetE := 0x00
  daa := .customary
  das := .customary
  divsRounding := .truncate

/-- The upper 15 bits of SP or PC that held `old` after `v` is written (10_state.md R26, R27). -/
def OddWrite.stored (mode : OddWrite) (old : BitVec 15) (v : Word) : BitVec 15 :=
  match mode with
  | .discard => v.extractLsb' 1 15
  | .keep => if v.getLsbD 0 then old else v.extractLsb' 1 15

/-- The 24-bit sum of a base and an offset (20_memory.md R70). -/
def LinearWrap.address (mode : LinearWrap) (base : Addr) (off : Word) : Addr :=
  let sum := base + off.zeroExtend 24
  match mode with
  | .truncate => sum
  | .stayInBank => if base.toNat + off.toNat < 2 ^ 24 then sum else base.extractLsb' 16 8 ++ sum.extractLsb' 0 16

/-- The 15-bit offset in an extension word; none (an illegal encoding) when the pad bit is set (30_encoding.md R106). -/
def Pcr15Layout.offset (layout : Pcr15Layout) (ext : Word) : Option (BitVec 15) :=
  match layout with
  | .high => if ext.getLsbD 0 then none else some (ext.extractLsb' 1 15)
  | .low => if ext.getLsbD 15 then none else some (ext.extractLsb' 0 15)

/-- The extension word that holds a 15-bit offset (30_encoding.md R106). -/
def Pcr15Layout.word (layout : Pcr15Layout) (offset : BitVec 15) : Word :=
  match layout with
  | .high => offset ++ 0#1
  | .low => 0#1 ++ offset

/-- The 8-bit immediate in an extension word, bits 7:0; none (an illegal encoding) when the pad in bits 15:8 is not zero
and is not ignored (30_encoding.md R106). -/
def PadNonzero.imm8 (mode : PadNonzero) (ext : Word) : Option Byte :=
  match mode with
  | .illegal => if ext.extractLsb' 8 8 = 0 then some (ext.extractLsb' 0 8) else none
  | .ignored => some (ext.extractLsb' 0 8)

/-- The order in which a boundary looks at the maskable interrupts (60_exceptions.md R339). -/
def Params.irqOrder (p : Params) : List (Fin 8) := p.irqFirst ++ List.finRange 8

/-- What a table of `calculateDAA` or `calculateDAS` holds for (A, H, C). -/
def decimalEntry (values : Vector (Byte × Bool) 1024) (a : Byte) (h c : Bool) : Byte × Bool :=
  let index : BitVec 10 := a ++ BitVec.ofBool h ++ BitVec.ofBool c
  values[index.toNat]'index.isLt

/-- The quotient of DIVSW under a rounding (42_muldiv.md R183). -/
def Rounding.quotient (r : Rounding) (n d : Int) : Int :=
  match r with
  | .truncate => n.tdiv d
  | .floor => n.fdiv d
  | .euclid => n.ediv d

end Sys2Proof.Machine
end

