-- ==== Sys2Proof/Machine/State.lean ====
section
/-! DEFINITION. What the machine holds (spec/10_state.md), the reasons a step can stop, and the state after reset. -/

namespace Sys2Proof.Machine

/-- Nine 8-bit general registers: the main set, or the shadow set (10_state.md R21, R25). -/
structure Regs where
  a : Byte
  b : Byte
  h : Byte
  l : Byte
  i : Byte
  x : Byte
  d : Byte
  s : Byte
  c : Byte
  deriving DecidableEq, Repr

/-- The flag register F, bits 7 to 0 (10_state.md R31). Every bit is a flag and every combination is legal, so the byte
and the eight flags say the same (log 33). -/
structure Flags where
  /-- bit 7, Sign / Negative -/
  s : Bool
  /-- bit 6, Zero -/
  z : Bool
  /-- bit 5, Master Interrupt Enable -/
  i : Bool
  /-- bit 4, Half Carry -/
  h : Bool
  /-- bit 3, Segment Adjust -/
  a : Bool
  /-- bit 2, Overflow / Parity -/
  v : Bool
  /-- bit 1, Data Segment Mode -/
  d : Bool
  /-- bit 0, Carry / Borrow -/
  c : Bool
  deriving DecidableEq, Repr

/-- The shadow flags F': seven bits, no I (10_state.md R40). -/
structure ShadowFlags where
  s : Bool
  z : Bool
  h : Bool
  a : Bool
  v : Bool
  d : Bool
  c : Bool
  deriving DecidableEq, Repr

/-- Whether the core executes (10_state.md R44, 60_exceptions.md R346). -/
inductive Run
  | running
  /-- after HALT: until an interrupt is accepted, or reset -/
  | halted
  /-- after STOP: until `wakeup`, or reset -/
  | stopped
  deriving DecidableEq, Repr

/-- What the environment presents at one step boundary (00_scope.md R8, R19, 60_exceptions.md R337; log 7), and the reset
that may also come during the step that begins there. -/
structure BoundaryInput where
  /-- the external reset (60_exceptions.md R332, R339): none, or one that comes when the step that begins at this
  boundary has made `n` port accesses, or all of its own where it makes fewer (logs 6, 7); 0 is at the boundary -/
  reset : Option Nat
  /-- the non-maskable interrupt event -/
  nmi : Bool
  /-- bit n is the level `pending(n)` -/
  pending : Byte
  /-- the wake-up event of STOP -/
  wakeup : Bool
  deriving DecidableEq, Repr

/-- One access to an I/O port (20_memory.md R62). -/
inductive IoEvent
  | read (port value : Byte)
  | write (port value : Byte)
  deriving DecidableEq, Repr

/-- The two readings of an illegal encoding (60_exceptions.md R335, `ILLEGAL_MODE`). -/
inductive IllegalMode
  | fault
  | trap
  deriving DecidableEq, Repr

/-- Memory: (address, byte) pairs, in the one form Memory.lean's `Memory.wf` says (20_memory.md R60). -/
abbrev Memory := List Host.Cell

/-- Everything the machine holds. INVENTORY.md lists each field with the rule that names it and its reset value. -/
structure State where
  /-- A B H L I X D S C (R21) -/
  regs : Regs
  /-- A' B' H' L' I' X' D' S' C' (R25) -/
  shadow : Regs
  /-- SP[15:1]; bit 0 of SP is hard-wired 0 (R26, R43) -/
  spHi : BitVec 15
  /-- PC[15:1]; bit 0 of PC is hard-wired 0 (R27, R43) -/
  pcHi : BitVec 15
  /-- K, the program bank (R30) -/
  k : Byte
  /-- F (R31) -/
  f : Flags
  /-- F' (R40) -/
  fShadow : ShadowFlags
  /-- E, the interrupt enable mask (R41) -/
  e : Byte
  /-- running, halted or stopped (R44) -/
  run : Run
  /-- the 2^24 bytes of memory (20_memory.md R60); the Z registers are its first 32 bytes (R42) -/
  mem : Memory
  /-- the model's: what the environment presents at the next step boundaries, the next first; nothing after the last
  (log 7) -/
  inputs : List BoundaryInput
  /-- the model's: what the ports will answer to the next reads, the next first (log 8) -/
  portAnswers : List Byte
  /-- the model's: the port accesses performed, the latest first (log 8) -/
  ioLog : List IoEvent
  /-- the model's: how many free values have been drawn (log 9) -/
  fresh : Nat
  /-- the parameter `handler(n)`: slot k of interrupt n stands for the address $FF4000 + 8k (R340; log 10) -/
  handlers : Vector (BitVec 11) 8
  /-- the parameter `ILLEGAL_MODE` (R335; log 11) -/
  illegalMode : IllegalMode
  /-- the other parameters of R7 (Params.lean; logs 36, 37) -/
  params : Params
  deriving DecidableEq, Repr

/-- Why the machine stops. -/
inductive Fault
  /-- `IllegalInstruction` with `ILLEGAL_MODE = fault` (60_exceptions.md R335): the address of the instruction word and
  the word. Raised by the step and by REPI for its target. Safe: nothing is provable past it. -/
  | illegalInstruction (addr : Addr) (word : Word)
  /-- `ModelFault(misaligned)` (20_memory.md R64): a 16-bit or 24-bit data access at this odd linear address. Raised by
  every instruction with such an operand. Safe. -/
  | misaligned (addr : Addr)
  /-- `ModelFault(repi_target)` (40_misc_system.md R152): REPI before an instruction it may not repeat. Raised by REPI r
  and REPI imm. Safe. -/
  | repiTarget
  /-- `ModelFault(self_modifying_repi)` (20_memory.md R93): the target of REPI imm stored over its own words. Raised by
  REPI imm. Safe. -/
  | selfModifyingRepi
  deriving DecidableEq, Repr

/-- Why the model has no meaning for an instruction. -/
inductive Refusal
  /-- An instruction without a meaning, by its mnemonic; raised by `exec` only, and by no arm of it now. Safe. -/
  | notModelled (mnemonic : String)
  deriving DecidableEq, Repr

/-- The three outcomes of a step of this machine. -/
abbrev Result := Host.Outcome State Fault Refusal

/-- A general register set that holds zeros (logs 1, 2). -/
def Regs.zero : Regs := ⟨0, 0, 0, 0, 0, 0, 0, 0, 0⟩

/-- The machine right after reset: K, PC, F.I, E, `run` and the pending requests as 10_state.md R45 has them; the other
registers and flags hold the values of logs 1 to 4, memory lists nothing (log 5), the model's own fields start empty
(logs 7 to 11), and the parameters have the spec's defaults (R7; log 36). -/
def State.reset : State where
  regs := Regs.zero
  shadow := Regs.zero
  spHi := 0
  pcHi := 0
  k := 0xFF
  f := ⟨false, false, Params.default.resetI, false, false, false, false, false⟩
  fShadow := ⟨false, false, false, false, false, false, false⟩
  e := Params.default.resetE
  run := .running
  mem := []
  inputs := []
  portAnswers := []
  ioLog := []
  fresh := 0
  handlers := Vector.replicate 8 0
  illegalMode := .fault
  params := Params.default

end Sys2Proof.Machine
end

