-- ==== Sys2Proof/Machine/Flags.lean ====
section
/-! DEFINITION. The flag register as a byte, the conditions, and every result-and-flags computation: the functions of
47_alu.md R289, the single-operand forms of 43_unary.md, the shifts of 44_shift_bit.md, the multiplications and
divisions of 42_muldiv.md and the decimal adjustments of 40_misc_system.md. -/

namespace Sys2Proof.Machine

/-! ## F and F' as bytes -/

/-- F as a byte (10_state.md R31). -/
def Flags.toByte (f : Flags) : Byte :=
  BitVec.ofNat 8
    (f.s.toNat * 128 + f.z.toNat * 64 + f.i.toNat * 32 + f.h.toNat * 16 + f.a.toNat * 8 + f.v.toNat * 4
      + f.d.toNat * 2 + f.c.toNat)

/-- F from a byte (10_state.md R31, 45_load.md R249). -/
def Flags.ofByte (b : Byte) : Flags where
  s := b.getLsbD 7
  z := b.getLsbD 6
  i := b.getLsbD 5
  h := b.getLsbD 4
  a := b.getLsbD 3
  v := b.getLsbD 2
  d := b.getLsbD 1
  c := b.getLsbD 0

/-- The byte of F' with the given bit 5, which F' does not have (10_state.md R40). -/
def ShadowFlags.toByte (f : ShadowFlags) (bit5 : Bool) : Byte :=
  Flags.toByte ⟨f.s, f.z, bit5, f.h, f.a, f.v, f.d, f.c⟩

/-- F' from a byte, bit 5 ignored (10_state.md R40). -/
def ShadowFlags.ofByte (b : Byte) : ShadowFlags where
  s := b.getLsbD 7
  z := b.getLsbD 6
  h := b.getLsbD 4
  a := b.getLsbD 3
  v := b.getLsbD 2
  d := b.getLsbD 1
  c := b.getLsbD 0

/-- The seven flags EXS F moves out of F (40_misc_system.md R141). -/
def Flags.toShadow (f : Flags) : ShadowFlags := ⟨f.s, f.z, f.h, f.a, f.v, f.d, f.c⟩

/-- F with the seven flags of F' in it; I keeps its value (40_misc_system.md R141). -/
def Flags.withShadow (f : Flags) (g : ShadowFlags) : Flags := ⟨g.s, g.z, f.i, g.h, g.a, g.v, g.d, g.c⟩

/-- `cond(c)` (30_encoding.md R110). -/
def Flags.cond (f : Flags) : Cond → Bool
  | .lt => f.s != f.v
  | .ge => f.s == f.v
  | .le => f.s != f.v || f.z
  | .gt => f.s == f.v && !f.z
  | .ule => f.c || f.z
  | .ugt => !f.c && !f.z
  | .z => f.z
  | .nz => !f.z
  | .m => f.s
  | .p => !f.s
  | .pe => f.v
  | .po => !f.v
  | .c => f.c
  | .nc => !f.c
  | .always => true

/-! ## Results with flags -/

/-- A result and the flags an operation computes from it; which of them it writes is the caller's. -/
structure Out (w : Nat) where
  res : BitVec w
  s : Bool
  z : Bool
  h : Bool
  v : Bool
  c : Bool
  deriving DecidableEq, Repr

/-- The half-carry modulus: 2^4 at 8 bits; at 16 bits 2^(`H16_BIT` + 1), which is 2^12 by default (47_alu.md R289;
log 16). -/
def Params.halfMod (p : Params) (w : Nat) : Nat := if w = 8 then 16 else 2 ^ (p.h16Bit.val + 1)

/-- The top bit (00_scope.md R32 widths; log 27). -/
def topBit {w : Nat} (x : BitVec w) : Bool := x.msb

/-- How many low bits parity covers: 8 at 8 bits, `PARITY_WIDTH` at 16 (47_alu.md R289; log 27). -/
def Params.parityBits (p : Params) (w : Nat) : Nat := if w = 8 then 8 else p.parityWidth.val

/-- 1 when the number of 1 bits is even (43_unary.md R203). -/
def parity {w : Nat} (p : Params) (x : BitVec w) : Bool :=
  (List.range (p.parityBits w)).foldl (fun acc n => acc != x.getLsbD n) true

/-- `add(x, y, cin)` (47_alu.md R289). -/
def addFlags {w : Nat} (p : Params) (x y : BitVec w) (cin : Bool) : Out w :=
  let t := x.toNat + y.toNat + cin.toNat
  let r := BitVec.ofNat w t
  { res := r
    s := topBit r
    z := r == 0
    h := decide (p.halfMod w ≤ x.toNat % p.halfMod w + y.toNat % p.halfMod w + cin.toNat)
    v := topBit x == topBit y && topBit r != topBit x
    c := decide (2 ^ w ≤ t) }

/-- `sub(x, y, bin)` (47_alu.md R289). -/
def subFlags {w : Nat} (p : Params) (x y : BitVec w) (bin : Bool) : Out w :=
  let t : Int := x.toNat - y.toNat - bin.toNat
  let r := BitVec.ofInt w t
  { res := r
    s := topBit r
    z := r == 0
    h := decide (x.toNat % p.halfMod w < y.toNat % p.halfMod w + bin.toNat)
    v := topBit x != topBit y && topBit r != topBit x
    c := decide (t < 0) }

/-- `logic(r)` (47_alu.md R289); H and C are not written. -/
def logicFlags {w : Nat} (p : Params) (r : BitVec w) : Out w :=
  { res := r, s := topBit r, z := r == 0, h := false, v := parity p r, c := false }

/-- The eight operations of 47_alu.md. -/
inductive AluOp | add | adc | sub | sbc | and | xor | or | cp
  deriving DecidableEq, Repr

/-- The result and flags of an operation on destination `x` and source `y` with F.C = `cf` (47_alu.md R281 to R288). -/
def AluOp.eval {w : Nat} (op : AluOp) (p : Params) (x y : BitVec w) (cf : Bool) : Out w :=
  match op with
  | .add => addFlags p x y false
  | .adc => addFlags p x y cf
  | .sub => subFlags p x y false
  | .sbc => subFlags p x y cf
  | .and => logicFlags p (x &&& y)
  | .xor => logicFlags p (x ^^^ y)
  | .or => logicFlags p (x ||| y)
  | .cp => subFlags p x y false

/-- AND, XOR, OR: the logic group (47_alu.md R289). -/
def AluOp.isLogic : AluOp → Bool
  | .add => false | .adc => false | .sub => false | .sbc => false
  | .and => true | .xor => true | .or => true
  | .cp => false

/-- Flag column `**-*CV-*`: S, Z, H, V, C as computed, A as C (47_alu.md R289). -/
def Flags.putArith {w : Nat} (f : Flags) (o : Out w) : Flags :=
  { f with s := o.s, z := o.z, h := o.h, a := o.c, v := o.v, c := o.c }

/-- Flag column `**--*P--`: S, Z, V (47_alu.md R289, 43_unary.md R197). -/
def Flags.putLogic {w : Nat} (f : Flags) (o : Out w) : Flags :=
  { f with s := o.s, z := o.z, v := o.v }

/-- The flags after one of the eight operations (47_alu.md R289). -/
def AluOp.putFlags {w : Nat} (op : AluOp) (f : Flags) (o : Out w) : Flags :=
  if op.isLogic then f.putLogic o else f.putArith o

/-- Flag column `**-**V--`: S, Z, H, V (43_unary.md R191 to R194). -/
def Flags.putCount {w : Nat} (f : Flags) (o : Out w) : Flags :=
  { f with s := o.s, z := o.z, h := o.h, v := o.v }

/-- Flag column `**--*---`: S, Z (44_shift_bit.md R217, R229). -/
def Flags.putSZ {w : Nat} (f : Flags) (r : BitVec w) : Flags :=
  { f with s := topBit r, z := r == 0 }

/-! ## Single-operand forms (43_unary.md) -/

/-- The count of INC and DEC: the field plus one, 1 to 8 (R191). -/
def countOf {w : Nat} (field : BitVec 3) : BitVec w := BitVec.ofNat w (field.toNat + 1)

/-- INC, and INCW of a memory word (R191, R193). -/
def incOp {w : Nat} (p : Params) (field : BitVec 3) (x : BitVec w) (f : Flags) : BitVec w × Flags :=
  let o := addFlags p x (countOf field) false
  (o.res, f.putCount o)

/-- DEC, and DECW of a memory word (R192, R194). -/
def decOp {w : Nat} (p : Params) (field : BitVec 3) (x : BitVec w) (f : Flags) : BitVec w × Flags :=
  let o := subFlags p x (countOf field) false
  (o.res, f.putCount o)

/-- INCW of a register: only A, the carry out of bit 15 (R193). -/
def incRegOp (field : BitVec 3) (x : Word) (f : Flags) : Word × Flags :=
  (x + countOf field, { f with a := decide (0xFFFF < x.toNat + (field.toNat + 1)) })

/-- DECW of a register: only A, the borrow out of bit 15 (R194). -/
def decRegOp (field : BitVec 3) (x : Word) (f : Flags) : Word × Flags :=
  (x - countOf field, { f with a := decide (x.toNat < field.toNat + 1) })

/-- NEG, NEGW (R195, R196). -/
def negOp {w : Nat} (p : Params) (x : BitVec w) (f : Flags) : BitVec w × Flags :=
  let o := subFlags p 0 x false
  (o.res, f.putArith o)

/-- NGC, NGCW (R199, R200). -/
def ngcOp {w : Nat} (p : Params) (x : BitVec w) (f : Flags) : BitVec w × Flags :=
  let o := subFlags p 0 x f.c
  (o.res, f.putArith o)

/-- CPL, CPLW (R197, R198). -/
def cplOp {w : Nat} (p : Params) (x : BitVec w) (f : Flags) : BitVec w × Flags :=
  let o := logicFlags p (~~~x)
  (o.res, f.putLogic o)

/-! ## Shifts and rotates (44_shift_bit.md) -/

/-- S and Z of the result, C and A the bit shifted out, V as given (R211 to R218, R223 to R230). -/
def Flags.putShift {w : Nat} (f : Flags) (r : BitVec w) (out v : Bool) : Flags :=
  { f with s := topBit r, z := r == 0, a := out, v := v, c := out }

/-- One place to the left, `low` entering at bit 0. -/
def shiftLeftIn {w : Nat} (x : BitVec w) (low : Bool) : BitVec w := x <<< 1 ||| BitVec.ofNat w low.toNat

/-- One place to the right, `high` entering at the top bit. -/
def shiftRightIn {w : Nat} (x : BitVec w) (high : Bool) : BitVec w :=
  x >>> 1 ||| BitVec.ofNat w high.toNat <<< (w - 1)

/-- RLC (R211, R223); `v` is the unspecified V. -/
def rlcOp {w : Nat} (v : Bool) (x : BitVec w) (f : Flags) : BitVec w × Flags :=
  let r := shiftLeftIn x (topBit x)
  (r, f.putShift r (topBit x) v)

/-- RRC (R212, R224). -/
def rrcOp {w : Nat} (v : Bool) (x : BitVec w) (f : Flags) : BitVec w × Flags :=
  let r := shiftRightIn x (x.getLsbD 0)
  (r, f.putShift r (x.getLsbD 0) v)

/-- RL (R213, R225). -/
def rlOp {w : Nat} (v : Bool) (x : BitVec w) (f : Flags) : BitVec w × Flags :=
  let r := shiftLeftIn x f.c
  (r, f.putShift r (topBit x) v)

/-- RR (R214, R226). -/
def rrOp {w : Nat} (v : Bool) (x : BitVec w) (f : Flags) : BitVec w × Flags :=
  let r := shiftRightIn x f.c
  (r, f.putShift r (x.getLsbD 0) v)

/-- SLA (R215, R227): V when the sign changed. -/
def slaOp {w : Nat} (x : BitVec w) (f : Flags) : BitVec w × Flags :=
  let r := shiftLeftIn x false
  (r, f.putShift r (topBit x) (topBit x != x.getLsbD (w - 2)))

/-- SRA (R216, R228): the top bit stays, V is cleared. -/
def sraOp {w : Nat} (x : BitVec w) (f : Flags) : BitVec w × Flags :=
  let r := shiftRightIn x (topBit x)
  (r, f.putShift r (x.getLsbD 0) false)

/-- SRL (R218, R230). -/
def srlOp {w : Nat} (v : Bool) (x : BitVec w) (f : Flags) : BitVec w × Flags :=
  let r := shiftRightIn x false
  (r, f.putShift r (x.getLsbD 0) v)

/-- SWAP, SWAPW: the halves exchanged (R217, R229). -/
def swapOp {w : Nat} (x : BitVec w) (f : Flags) : BitVec w × Flags :=
  let r := x <<< (w / 2) ||| x >>> (w / 2)
  (r, f.putSZ r)

/-! ## Bit operations (44_shift_bit.md R220 to R222) -/

/-- BIT, RES, SET. -/
inductive BitOp | bit | res | set
  deriving DecidableEq, Repr

/-- The byte with only bit `n` set. -/
def bitMask (n : Nat) : Byte := 1 <<< n

/-- The byte RES and SET write back; BIT writes nothing (R220 to R222). -/
def BitOp.result (op : BitOp) (b : BitVec 3) (x : Byte) : Byte :=
  match op with
  | .bit => x
  | .res => x &&& ~~~bitMask b.toNat
  | .set => x ||| bitMask b.toNat

/-- Z is the complement of the bit as it was (R220 to R222). -/
def Flags.putBit (f : Flags) (b : BitVec 3) (x : Byte) : Flags :=
  { f with z := !x.getLsbD b.toNat }

/-! ## Decimal adjustment (40_misc_system.md R146, R147; log 15) -/

/-- The carry and low-nibble tests of DAA and DAS. -/
def adjustLow (a : Byte) (h : Bool) : Bool := decide (9 < a.toNat % 16) || h

/-- The high-digit test of DAA and DAS; it is the new carry. -/
def adjustHigh (a : Byte) (c : Bool) : Bool := decide (0x99 < a.toNat) || c

/-- What DAA adds and DAS subtracts. -/
def adjustment (a : Byte) (h c : Bool) : Byte :=
  (if adjustLow a h then 0x06 else 0) + (if adjustHigh a c then 0x60 else 0)

/-- `calculateDAA : (A, H, C) -> (A', C')`, a parameter (R146). -/
def calculateDaa (p : Params) (a : Byte) (h c : Bool) : Byte × Bool :=
  match p.daa with
  | .customary => (a + adjustment a h c, adjustHigh a c)
  | .table values => decimalEntry values a h c

/-- `calculateDAS : (A, H, C) -> (A', C')`, a parameter (R147). -/
def calculateDas (p : Params) (a : Byte) (h c : Bool) : Byte × Bool :=
  match p.das with
  | .customary => (a - adjustment a h c, adjustHigh a c)
  | .table values => decimalEntry values a h c

end Sys2Proof.Machine
end

