-- ==== Sys2Proof/Machine/Memory.lean ====
section
/-! DEFINITION. Bytes, words and memory (spec/20_memory.md §1 to §4). -/

namespace Sys2Proof.Machine

/-! ## Halves of a word -/

/-- Two bytes as a word, the first in bits 15:8 (00_scope.md R11). -/
def pair (hi lo : Byte) : Word := hi ++ lo

/-- Bits 15:8. -/
def hiByte (w : Word) : Byte := w.extractLsb' 8 8

/-- Bits 7:0. -/
def loByte (w : Word) : Byte := w.extractLsb' 0 8

/-! ## The list of cells -/

/-- What an unlisted address reads as (log 5). -/
def Memory.unlisted : Byte := 0

/-- The byte at a key. -/
def Memory.read : Memory → Nat → Byte
  | [], _ => Memory.unlisted
  | (a, v) :: m, key => if key = a then v else Memory.read m key

/-- Store a byte; storing what an unlisted address reads as removes the entry. -/
def Memory.write : Memory → Nat → Byte → Memory
  | [], key, v => if v = Memory.unlisted then [] else [(key, v)]
  | (a, u) :: m, key, v =>
    if key < a then
      if v = Memory.unlisted then (a, u) :: m else (key, v) :: (a, u) :: m
    else if key = a then
      if v = Memory.unlisted then m else (key, v) :: m
    else (a, u) :: Memory.write m key v

/-- Every listed key is above `low` and in the address space, the keys rise strictly, and no entry holds what an
unlisted address reads as. -/
def Memory.wfAbove (low : Nat) : Memory → Bool
  | [] => true
  | (a, v) :: m => decide (low ≤ a) && decide (a < 2 ^ 24) && decide (v ≠ Memory.unlisted) && Memory.wfAbove (a + 1) m

/-- The canonical form: addresses of the 24-bit space, strictly rising, no entry equal to what an unlisted address
reads as. -/
def Memory.wf (m : Memory) : Bool := Memory.wfAbove 0 m

/-- The canonical memory with these bytes in it, the first of two for one address lying under the later. Keys are
taken modulo 2^24. -/
def Memory.ofCells : List Host.Cell → Memory :=
  List.foldl (fun m c => Memory.write m (c.1 % 2 ^ 24) c.2) []

/-! ## Bytes of the linear space -/

/-- The byte at a linear address (R60). -/
def State.readByte (s : State) (a : Addr) : Byte := s.mem.read a.toNat

/-- Store a byte at a linear address (R60). -/
def State.writeByte (s : State) (a : Addr) (v : Byte) : State := { s with mem := s.mem.write a.toNat v }

/-! ## Locations: base plus offset -/

/-- A memory location: a 24-bit base, a 16-bit offset and how their sum wraps (R74). -/
structure Ea where
  base : Addr
  off : Word
  wrap : LinearWrap
  deriving DecidableEq, Repr

/-- The linear address of byte `n` of a location: the offset wraps at 16 bits (R73), the sum at 24 (R70,
`LINEAR_WRAP`). -/
def Ea.byte (ea : Ea) (n : Nat) : Addr := ea.wrap.address ea.base (ea.off + BitVec.ofNat 16 n)

/-- The linear address of a location (R69, R70). -/
def Ea.addr (ea : Ea) : Addr := ea.byte 0

/-- The linear address is odd: no place for a 16-bit or 24-bit access (R64). -/
def Ea.odd (ea : Ea) : Bool := ea.addr.getLsbD 0

/-- A location whose base is the start of a bank, so that the sum with an offset never wraps (R69, R72). -/
def Ea.inBank (bank : Byte) (off : Word) : Ea := ⟨bank ++ (0 : Word), off, .truncate⟩

/-- A location in bank $00 (R69). -/
def Ea.bank0 (off : Word) : Ea := Ea.inBank 0x00 off

/-- `MemRead(addr, 1)` (R63). -/
def State.read8 (s : State) (ea : Ea) : Byte := s.readByte (ea.byte 0)

/-- `MemRead(addr, 2)`, the byte at the lower address in bits 7:0 (R63). -/
def State.read16 (s : State) (ea : Ea) : Word := pair (s.readByte (ea.byte 1)) (s.readByte (ea.byte 0))

/-- Bits 23:16 of `MemRead(addr, 4)`; bits 15:0 are `read16`, bits 31:24 are not observed (R66). -/
def State.readBank (s : State) (ea : Ea) : Byte := s.readByte (ea.byte 2)

/-- `MemWrite(addr, 1, v)` (R63). -/
def State.write8 (s : State) (ea : Ea) (v : Byte) : State := s.writeByte (ea.byte 0) v

/-- `MemWrite(addr, 2, v)` (R63). -/
def State.write16 (s : State) (ea : Ea) (v : Word) : State :=
  (s.writeByte (ea.byte 0) (loByte v)).writeByte (ea.byte 1) (hiByte v)

/-- The addresses an 8-bit store to a location writes. -/
def Ea.bytes8 (ea : Ea) : List Addr := [ea.byte 0]

/-- The addresses a 16-bit store to a location writes. -/
def Ea.bytes16 (ea : Ea) : List Addr := [ea.byte 0, ea.byte 1]

/-- The word Zn as a location: $000000 + 2n (10_state.md R42). -/
def Ea.zReg (n : BitVec 4) : Ea := Ea.bank0 (BitVec.ofNat 16 (2 * n.toNat))

/-- Go on unless the location is odd and `MISALIGNED` is `fault` (R64, R366). A location of `none` is a register or an
immediate. -/
def whenAligned (mode : Misaligned) (loc : Option Ea) (next : Result) : Result :=
  match mode, loc with
  | .fault, some ea => if ea.odd then .fault (.misaligned ea.addr) else next
  | .fault, none => next
  | .split, _ => next

end Sys2Proof.Machine
end

