-- ==== Sys2Proof/Machine/Ops.lean ====
section
/-! DEFINITION. The named operations over registers, the stack, the I/O ports and the free values, and the taking of an
exception and the return from one. -/

namespace Sys2Proof.Machine

/-! ## SP, PC and the program bank -/

/-- SP; bit 0 reads 0 (10_state.md R26). -/
def State.sp (s : State) : Word := s.spHi ++ 0#1

/-- Write SP (10_state.md R26, `ODD_WRITE`; log 23). -/
def State.setSp (s : State) (v : Word) : State := { s with spHi := s.params.oddWrite.stored s.spHi v }

/-- PC; bit 0 reads 0 (10_state.md R27). While an instruction executes it holds `PCnext` (R28; log 13). -/
def State.pc (s : State) : Word := s.pcHi ++ 0#1

/-- Write PC (10_state.md R27, `ODD_WRITE`; log 23). -/
def State.setPc (s : State) (v : Word) : State := { s with pcHi := s.params.oddWrite.stored s.pcHi v }

/-- Write K (10_state.md R30). -/
def State.setK (s : State) (v : Byte) : State := { s with k := v }

/-- Write F (10_state.md R31). -/
def State.setF (s : State) (f : Flags) : State := { s with f := f }

/-- K:F as a word, K in bits 15:8 (00_scope.md R11). -/
def State.kf (s : State) : Word := pair s.k s.f.toByte

/-- K and F from a popped word (48_control.md R316). -/
def State.setKf (s : State) (w : Word) : State := { s with k := hiByte w, f := Flags.ofByte (loByte w) }

/-! ## General registers -/

/-- An 8-bit register of the RM table (10_state.md R21). -/
def State.reg8 (s : State) : Reg8 → Byte
  | .a => s.regs.a | .b => s.regs.b | .h => s.regs.h | .l => s.regs.l
  | .i => s.regs.i | .x => s.regs.x | .d => s.regs.d | .s => s.regs.s

/-- Write an 8-bit register of the RM table. -/
def State.setReg8 (s : State) (r : Reg8) (v : Byte) : State :=
  match r with
  | .a => { s with regs := { s.regs with a := v } }
  | .b => { s with regs := { s.regs with b := v } }
  | .h => { s with regs := { s.regs with h := v } }
  | .l => { s with regs := { s.regs with l := v } }
  | .i => { s with regs := { s.regs with i := v } }
  | .x => { s with regs := { s.regs with x := v } }
  | .d => { s with regs := { s.regs with d := v } }
  | .s => { s with regs := { s.regs with s := v } }

/-- A 16-bit register of the RM table: a pair, first letter in bits 15:8, or SP (10_state.md R21, R26). -/
def State.reg16 (s : State) : Reg16 → Word
  | .ab => pair s.regs.a s.regs.b
  | .hl => pair s.regs.h s.regs.l
  | .ix => pair s.regs.i s.regs.x
  | .ds => pair s.regs.d s.regs.s
  | .sp => s.sp

/-- Write a 16-bit register of the RM table: both halves of a pair, or SP. -/
def State.setReg16 (s : State) (r : Reg16) (v : Word) : State :=
  match r with
  | .ab => { s with regs := { s.regs with a := hiByte v, b := loByte v } }
  | .hl => { s with regs := { s.regs with h := hiByte v, l := loByte v } }
  | .ix => { s with regs := { s.regs with i := hiByte v, x := loByte v } }
  | .ds => { s with regs := { s.regs with d := hiByte v, s := loByte v } }
  | .sp => s.setSp v

/-- A pseudo-register: a sign or zero extension of A or B (10_state.md R24). -/
def State.pseudo (s : State) : Pseudo → Word
  | .asx => s.regs.a.signExtend 16
  | .bsx => s.regs.b.signExtend 16
  | .azx => s.regs.a.zeroExtend 16

/-- Register C, the port number (10_state.md R21). -/
def State.setC (s : State) (v : Byte) : State := { s with regs := { s.regs with c := v } }

/-- Write E (10_state.md R41). -/
def State.setE (s : State) (v : Byte) : State := { s with e := v }

/-- The 8-bit accumulator (30_encoding.md R104). -/
def accReg8 : Acc8 → Reg8
  | .a => .a | .b => .b

/-- The 16-bit accumulator (30_encoding.md R104). -/
def accReg16 : Acc16 → Reg16
  | .ab => .ab | .hl => .hl

/-- The counter of `REPI r` (30_encoding.md R104). -/
def counterReg : RepReg → Reg8
  | .a => .a | .b => .b | .h => .h | .l => .l

/-- A pair of a register set: AB, HL, IX, DS of the shadow set for PUSH ALL (10_state.md R25). -/
def Regs.pairAt (r : Regs) : Reg16 → Word
  | .ab => pair r.a r.b
  | .hl => pair r.h r.l
  | .ix => pair r.i r.x
  | .ds => pair r.d r.s
  | .sp => 0

/-! ## Free values (00_scope.md R13 `unspecified(N)`; log 9) -/

/-- The next free value: the n-th draw, up to 16 bits of it. -/
def State.free (s : State) : Word := Config.unspecified s.fresh

/-- The next free value, as one bit. -/
def State.freeBit (s : State) : Bool := s.free.getLsbD 0

/-- The state after a draw. -/
def State.drawn (s : State) : State := { s with fresh := s.fresh + 1 }

/-- `F.A <- unspecified(1)` (20_memory.md R83). -/
def State.drawA (s : State) : State := s.drawn.setF { s.f with a := s.freeBit }

/-! ## The stack (20_memory.md R85) -/

/-- `push16(v)`. -/
def State.push16 (s : State) (v : Word) : State :=
  (s.setSp (s.sp - 2)).write16 (Ea.bank0 (s.sp - 2)) v

/-- The word `pop16()` returns. -/
def State.top16 (s : State) : Word := s.read16 (Ea.bank0 s.sp)

/-- The state after `pop16()`. -/
def State.popped (s : State) : State := s.setSp (s.sp + 2)

/-- The addresses `push16` writes, `n` pushes deep (the first push is 1). -/
def State.pushBytes (s : State) (n : Nat) : List Addr :=
  (Ea.bank0 (s.sp - BitVec.ofNat 16 (2 * n))).bytes16

/-- The addresses that the first `n` pushes write. -/
def State.pushArea (s : State) : Nat → List Addr
  | 0 => []
  | n + 1 => s.pushArea n ++ s.pushBytes (n + 1)

/-! ## I/O ports (20_memory.md R62, R67; log 8) -/

/-- What `IoRead(C)` returns: the environment's next answer, or a free value when it has given none. -/
def State.portIn (s : State) : Byte :=
  match s.portAnswers with
  | v :: _ => v
  | [] => loByte s.free

/-- The state after `IoRead(C)`. -/
def State.portRead (s : State) : State :=
  match s.portAnswers with
  | v :: rest => { s with portAnswers := rest, ioLog := .read s.regs.c v :: s.ioLog }
  | [] => { s.drawn with ioLog := .read s.regs.c (loByte s.free) :: s.ioLog }

/-- `IoWrite(C, v)`. -/
def State.portWrite (s : State) (v : Byte) : State := { s with ioLog := .write s.regs.c v :: s.ioLog }

/-! ## Far frames, exception entry and return -/

/-- `push16(K:F); push16(ret)`: the far frame (20_memory.md R85). -/
def State.pushFar (s : State) (ret : Word) : State := (s.push16 s.kf).push16 ret

/-- F after an entry: as it was, but for I when `IRQ_CLEARS_I` is set (60_exceptions.md R334). -/
def State.entryFlags (s : State) : Flags := if s.params.irqClearsI then { s.f with i := false } else s.f

/-- `enter(target24, ret16)` (60_exceptions.md R334): the far frame is pushed with F as it was, K:PC is the target, the
core runs. -/
def State.enter (s : State) (bank : Byte) (off ret : Word) : State :=
  { ((s.pushFar ret).setK bank).setPc off with run := .running, f := s.entryFlags }

/-- `K:PC <- ` the popped far frame, F from it too (48_control.md R316): the return of RETF and RETI. -/
def State.leave (s : State) : State :=
  (s.popped.popped.setPc s.top16).setKf s.popped.top16

/-- NMI entry (60_exceptions.md R341). -/
def State.enterNmi (s : State) : State := s.enter 0xFF 0x0008 s.pc

/-- The offset of `handler(n)` in bank $FF: $4000 + 8k (60_exceptions.md R340). -/
def State.handlerOff (s : State) (n : Fin 8) : Word := BitVec.ofNat 16 (0x4000 + 8 * s.handlers[n].toNat)

/-- Entry to maskable interrupt n: the frame, then `E[n] <- 0` (60_exceptions.md R340). -/
def State.enterIrq (s : State) (n : Fin 8) : State :=
  let t := s.enter 0xFF (s.handlerOff n) s.pc
  t.setE (t.e &&& ~~~bitMask n)

/-- The maskable interrupt a boundary accepts: F.I set, the first n in the order `IRQ_PRIORITY` with E[n] and pending(n)
set (60_exceptions.md R338, R339). -/
def State.accepted (s : State) (pending : Byte) : Option (Fin 8) :=
  if s.f.i then s.params.irqOrder.find? (fun n => s.e.getLsbD n && pending.getLsbD n) else none

/-- `raise IllegalInstruction(w)` for the word at K:at (60_exceptions.md R335; logs 11, 12). -/
def State.raiseIllegal (s : State) (addr : Word) (w : Word) : Result :=
  match s.illegalMode with
  | .fault => .fault (.illegalInstruction (s.k ++ addr) w)
  | .trap => .next (s.enter 0xFF 0x0010 addr)

/-! ## The external reset (60_exceptions.md R332; log 6) -/

/-- A free byte, `n` draws from here. -/
def State.freeByteAt (s : State) (n : Nat) : Byte := loByte (Config.unspecified (s.fresh + n))

/-- A general register set of free values, nine draws from `n`. -/
def State.freeRegs (s : State) (n : Nat) : Regs where
  a := s.freeByteAt n
  b := s.freeByteAt (n + 1)
  h := s.freeByteAt (n + 2)
  l := s.freeByteAt (n + 3)
  i := s.freeByteAt (n + 4)
  x := s.freeByteAt (n + 5)
  d := s.freeByteAt (n + 6)
  s := s.freeByteAt (n + 7)
  c := s.freeByteAt (n + 8)

/-- Reset entry: K, PC, `run`, F.I and E as R332 has them; every other register, flag and byte of memory is free; the
environment's fields and the parameters stay. -/
def State.resetEntry (s : State) : State where
  regs := s.freeRegs 0
  shadow := s.freeRegs 9
  spHi := (Config.unspecified (s.fresh + 18)).extractLsb' 1 15
  pcHi := 0
  k := 0xFF
  f := { Flags.ofByte (s.freeByteAt 19) with i := s.params.resetI }
  fShadow := ShadowFlags.ofByte (s.freeByteAt 20)
  e := s.params.resetE
  run := .running
  mem := Memory.ofCells (Config.memoryAfterReset s.fresh)
  inputs := s.inputs
  portAnswers := s.portAnswers
  ioLog := s.ioLog
  fresh := s.fresh + 21
  handlers := s.handlers
  illegalMode := s.illegalMode
  params := s.params

end Sys2Proof.Machine
end

