-- ==== Sys2Proof/Machine/Operands.lean ====
section
/-! DEFINITION. Every operand form: addresses, reads, writes and auto-indexing (spec/20_memory.md §6 to §8), and the
shared shapes of an instruction over them. A location is resolved in the state at the start of the instruction. -/

namespace Sys2Proof.Machine

/-! ## Addresses (20_memory.md R69 to R76) -/

/-- The base of the data segment: DS << 8, or D << 16 when F.D is set (R70). -/
def State.segBase (s : State) : Addr :=
  if s.f.d then s.regs.d ++ (0 : Word) else s.regs.d ++ s.regs.s ++ (0 : Byte)

/-- A location of a mode: bank $00, or the data segment (R69, R70, `LINEAR_WRAP`). -/
def State.inSeg (s : State) (seg : Seg) (off : Word) : Ea :=
  match seg with
  | .bank0 => Ea.bank0 off
  | .ds => ⟨s.segBase, off, s.params.linearWrap⟩

/-- The location of a plain memory mode (R75). -/
def State.plainEa (s : State) : PlainMem → Ea
  | .ab seg => s.inSeg seg (s.reg16 .ab)
  | .hl seg => s.inSeg seg (s.reg16 .hl)
  | .ix seg => s.inSeg seg (s.reg16 .ix)
  | .dsPair => Ea.bank0 (s.reg16 .ds)
  | .direct0 addr => Ea.bank0 addr
  | .direct1 addr => Ea.inBank 0x01 addr
  | .directDs addr => s.inSeg .ds addr
  | .ixDisp seg imm => s.inSeg seg (s.reg16 .ix + imm)
  | .spDisp imm => Ea.bank0 (s.sp + imm)

/-- The register of an RM auto-index. -/
def indexReg : IndexReg → Reg16
  | .hl => .hl
  | .ix => .ix

/-- The location of a memory mode: an auto-index uses the pointer as it is (R75, R81). -/
def State.memEa (s : State) : Mem → Ea
  | .plain m => s.plainEa m
  | .auto seg ptr _ => s.inSeg seg (s.reg16 (indexReg ptr))

/-- The location of a ZM operand; `Zn` is read at $000000 + 2n (R76). -/
def State.zmEa (s : State) : Zm → Ea
  | .auto seg n _ => s.inSeg seg (s.read16 (Ea.zReg n))
  | .plusIx seg n => s.inSeg seg (s.read16 (Ea.zReg n) + s.reg16 .ix)
  | .ptr seg n => s.inSeg seg (s.read16 (Ea.zReg n))
  | .ixDisp seg u => s.inSeg seg (s.reg16 .ix + u.zeroExtend 16)
  | .spDisp u => Ea.bank0 (s.sp + u.zeroExtend 16)
  | .low n => Ea.zReg n
  | .high n => Ea.bank0 (BitVec.ofNat 16 (2 * n.toNat + 1))

/-! ## Auto-indexing (20_memory.md R81 to R84) -/

/-- The pointer of an auto-index: a register, or the Z register n. -/
inductive Pointer
  | reg (r : IndexReg)
  | z (n : BitVec 4)
  deriving DecidableEq, Repr

/-- The auto-index of an operand. -/
structure AutoIndex where
  seg : Seg
  ptr : Pointer
  dir : Dir
  deriving DecidableEq, Repr

/-- The auto-index of an RM memory mode, if it has one. -/
def memAuto : Mem → Option AutoIndex
  | .plain _ => none
  | .auto seg ptr dir => some ⟨seg, .reg ptr, dir⟩

/-- The auto-index of an rm8 destination. -/
def loc8Auto : Loc8 → Option AutoIndex
  | .reg _ => none
  | .mem m => memAuto m

/-- The auto-index of an rm8 source. -/
def src8Auto : Src8 → Option AutoIndex
  | .imm _ => none
  | .loc l => loc8Auto l

/-- The auto-index of an rm16 destination. -/
def loc16Auto : Loc16 → Option AutoIndex
  | .reg _ => none
  | .mem m => memAuto m

/-- The auto-index of an rm16 source. -/
def src16Auto : Src16 → Option AutoIndex
  | .imm _ => none
  | .pseudo _ => none
  | .loc l => loc16Auto l

/-- The auto-index of a ZM operand. -/
def zmAuto : Zm → Option AutoIndex
  | .auto seg n dir => some ⟨seg, .z n, dir⟩
  | .plusIx _ _ => none
  | .ptr _ _ => none
  | .ixDisp _ _ => none
  | .spDisp _ => none
  | .low _ => none
  | .high _ => none

/-- The pointer's current value (R81). -/
def State.pointer (s : State) : Pointer → Word
  | .reg r => s.reg16 (indexReg r)
  | .z n => s.read16 (Ea.zReg n)

/-- Write the pointer (R81, R84). -/
def State.setPointer (s : State) (p : Pointer) (v : Word) : State :=
  match p with
  | .reg r => s.setReg16 (indexReg r) v
  | .z n => s.write16 (Ea.zReg n) v

/-- The pointer after an auto-index by `w` bytes (R75, R76). -/
def State.stepped (s : State) (a : AutoIndex) (w : Nat) : Word :=
  match a.dir with
  | .inc => s.pointer a.ptr + BitVec.ofNat 16 w
  | .dec => s.pointer a.ptr - BitVec.ofNat 16 w

/-- Perform the pointer update of one auto-index (R81). -/
def State.step1 (s : State) (a : Option AutoIndex) (w : Nat) : State :=
  match a with
  | none => s
  | some a => s.setPointer a.ptr (s.stepped a w)

/-- The carry or borrow out of bit 15 of the pointer update (R82). -/
def State.carry (s : State) (a : AutoIndex) (w : Nat) : Bool :=
  match a.dir with
  | .inc => decide (0xFFFF < (s.pointer a.ptr).toNat + w)
  | .dec => decide ((s.pointer a.ptr).toNat < w)

/-- The carry of a "DS:" auto-index; none when the operand has no "DS:" auto-index (R82). -/
def State.dsCarry (s : State) (a : Option AutoIndex) (w : Nat) : Option Bool :=
  match a with
  | none => none
  | some a =>
    match a.seg with
    | .bank0 => none
    | .ds => some (s.carry a w)

/-- What the A column of an instruction's flags says (00_scope.md R15). -/
inductive AColumn
  /-- `*`: only a "DS:" auto-index writes A -/
  | star
  /-- `C`, `O`, or a write of the whole F: the instruction writes A itself -/
  | own
  /-- `-` of JP, JPD, CALL, CALLD: not even an auto-index writes A (90_conflicts.md C5) -/
  | dash
  deriving DecidableEq, Repr

/-- What one "DS:" auto-index with this carry does to the A flag (R82, R83, `A_ON_AUTOINDEX`). -/
def State.adjustA (s : State) (col : AColumn) (carry : Bool) : State :=
  match col with
  | .star =>
    match s.params.aOnAutoIndex with
    | .carry => s.setF { s.f with a := carry }
    | .free => s.drawA
  | .own => s.drawA
  | .dash => s

/-- The auto-indexing that ends an instruction: the source's pointer, then the destination's, and the A flag
(R81 to R83). -/
def State.autoIndex (s : State) (col : AColumn) (w : Nat) (src dst : Option AutoIndex) : State :=
  let t := s.step1 src w
  let u := t.step1 dst w
  match s.dsCarry src w, t.dsCarry dst w with
  | none, none => u
  | some _, some _ => if col = .dash then u else u.drawA
  | some c, none => u.adjustA col c
  | none, some c => u.adjustA col c

/-! ## Reading and writing locations (20_memory.md R80) -/

/-- Read an rm8 destination. -/
def State.readLoc8 (s : State) : Loc8 → Byte
  | .reg r => s.reg8 r
  | .mem m => s.read8 (s.memEa m)

/-- Read an rm8 source. -/
def State.readSrc8 (s : State) : Src8 → Byte
  | .imm v => v
  | .loc l => s.readLoc8 l

/-- Write an rm8 destination that `s` resolves, in the state `t`. -/
def State.writeLoc8 (s : State) (l : Loc8) (v : Byte) (t : State) : State :=
  match l with
  | .reg r => t.setReg8 r v
  | .mem m => t.write8 (s.memEa m) v

/-- The memory location of an rm16 destination, if it is one. -/
def State.loc16Ea (s : State) : Loc16 → Option Ea
  | .reg _ => none
  | .mem m => some (s.memEa m)

/-- The memory location of an rm16 source, if it is one. -/
def State.src16Ea (s : State) : Src16 → Option Ea
  | .imm _ => none
  | .pseudo _ => none
  | .loc l => s.loc16Ea l

/-- Read an rm16 destination. -/
def State.readLoc16 (s : State) : Loc16 → Word
  | .reg r => s.reg16 r
  | .mem m => s.read16 (s.memEa m)

/-- Read an rm16 source. -/
def State.readSrc16 (s : State) : Src16 → Word
  | .imm v => v
  | .pseudo p => s.pseudo p
  | .loc l => s.readLoc16 l

/-- Write an rm16 destination that `s` resolves, in the state `t`. -/
def State.writeLoc16 (s : State) (l : Loc16) (v : Word) (t : State) : State :=
  match l with
  | .reg r => t.setReg16 r v
  | .mem m => t.write16 (s.memEa m) v

/-! ## The bytes an operand stores to -/

/-- The bytes an 8-bit store to an rm8 destination writes. -/
def State.loc8Bytes (s : State) : Loc8 → List Addr
  | .reg _ => []
  | .mem m => (s.memEa m).bytes8

/-- The bytes a 16-bit store to an rm16 destination writes. -/
def State.loc16Bytes (s : State) : Loc16 → List Addr
  | .reg _ => []
  | .mem m => (s.memEa m).bytes16

/-- The bytes an auto-index writes: the Z register it steps (R84). -/
def autoBytes : Option AutoIndex → List Addr
  | none => []
  | some a =>
    match a.ptr with
    | .reg _ => []
    | .z n => (Ea.zReg n).bytes16

/-! ## Shared shapes of instructions -/

/-- Read-modify-write of one rm8 destination: resolved once, one read, one write, one auto-index (R80). -/
def State.modify8 (s : State) (col : AColumn) (l : Loc8) (op : Byte → Flags → Byte × Flags) : State :=
  let r := op (s.readLoc8 l) s.f
  ((s.writeLoc8 l r.1 s).setF r.2).autoIndex col 1 none (loc8Auto l)

/-- Read-modify-write of one rm16 destination (R80, R64). -/
def modify16 (col : AColumn) (l : Loc16) (op : Word → Flags → Word × Flags) (s : State) : Result :=
  let r := op (s.readLoc16 l) s.f
  whenAligned s.params.misaligned (s.loc16Ea l)
    (.next (((s.writeLoc16 l r.1 s).setF r.2).autoIndex col 2 none (loc16Auto l)))

/-- Write `v` to an rm8 destination, then auto-index it: CLR and the loads from a special register. -/
def State.store8 (s : State) (l : Loc8) (v : Byte) : State :=
  (s.writeLoc8 l v s).autoIndex .star 1 none (loc8Auto l)

/-- Write `v` to an rm16 destination, then auto-index it. -/
def store16 (l : Loc16) (v : Word) (s : State) : Result :=
  whenAligned s.params.misaligned (s.loc16Ea l) (.next ((s.writeLoc16 l v s).autoIndex .star 2 none (loc16Auto l)))

end Sys2Proof.Machine
end

