-- ==== Sys2Proof/Machine/Control.lean ====
section
/-! DEFINITION. The control transfers of spec/48_control.md. PC holds PCnext (log 13), so an untaken transfer leaves the
state as it is (R300). -/

namespace Sys2Proof.Machine

/-- A displacement counted in words (30_encoding.md R108). -/
def wordsAway (n : Int) : Word := BitVec.ofInt 16 (2 * n)

/-- The displacement of DJNZ: pcr8 one-extended, times 2 (30_encoding.md R108). -/
def disp8 (p : Byte) : Word := wordsAway ((p.toNat : Int) - 256)

/-- The displacement of JR and CALLR: pcr10 sign-extended, times 2 (30_encoding.md R108). -/
def disp10 (p : BitVec 10) : Word := wordsAway p.toInt

/-- The displacement of JRL and CALLRL: pcr15 above a zero bit (30_encoding.md R106). -/
def disp15 (p : BitVec 15) : Word := p ++ 0#1

/-- Jump by a displacement from PCnext, in the current bank (R300). -/
def State.jumpBy (s : State) (disp : Word) : State := s.setPc (s.pc + disp)

/-- DJNZ A or B, pcr8 (R301). -/
def execDjnz8 (r : Acc8) (pcr8 : Byte) (s : State) : Result :=
  let v := s.reg8 (accReg8 r) - 1
  let t := s.setReg8 (accReg8 r) v
  .next (if v = 0 then t else t.jumpBy (disp8 pcr8))

/-- DJNZ AB or HL, pcr8 (R302). -/
def execDjnz16 (r : Acc16) (pcr8 : Byte) (s : State) : Result :=
  let v := s.reg16 (accReg16 r) - 1
  let t := s.setReg16 (accReg16 r) v
  .next (if v = 0 then t else t.jumpBy (disp8 pcr8))

/-- JR (R303). -/
def execJr (cond : Cond) (pcr10 : BitVec 10) (s : State) : Result :=
  .next (if s.f.cond cond then s.jumpBy (disp10 pcr10) else s)

/-- JRL (R311). -/
def execJrl (cond : Cond) (pcr15 : BitVec 15) (s : State) : Result :=
  .next (if s.f.cond cond then s.jumpBy (disp15 pcr15) else s)

/-- CALLR (R304). -/
def execCallr (pcr10 : BitVec 10) (s : State) : Result := .next ((s.push16 s.pc).setPc (s.pc + disp10 pcr10))

/-- CALLRL (R312). -/
def execCallrl (pcr15 : BitVec 15) (s : State) : Result := .next ((s.push16 s.pc).setPc (s.pc + disp15 pcr15))

/-- Go to an rm16 operand read in `s`, from the state `t` after the pushes: its auto-index, then PC and K (R305 to
R308). -/
def goTo (addr : Src16) (k : Byte) (s t : State) : Result :=
  whenAligned s.params.misaligned (s.src16Ea addr)
    (.next (((t.autoIndex .dash 2 (src16Auto addr) none).setPc (s.readSrc16 addr)).setK k))

/-- JP (R305). -/
def execJp (cond : Cond) (addr : Src16) (s : State) : Result :=
  if s.f.cond cond then goTo addr s.k s s else .next s

/-- CALL (R306). -/
def execCall (addr : Src16) (s : State) : Result := goTo addr s.k s (s.push16 s.pc)

/-- JPD (R307): `K <- D`, D as at the start. -/
def execJpd (cond : Cond) (addr : Src16) (s : State) : Result :=
  if s.f.cond cond then goTo addr s.regs.d s s else .next s

/-- CALLD (R308). -/
def execCalld (addr : Src16) (s : State) : Result := goTo addr s.regs.d s (s.pushFar s.pc)

/-- Go through a 24-bit pointer in memory read in `s`, from the state `t` after the pushes (R309, R310). -/
def goThrough (src : PlainMem) (s t : State) : Result :=
  whenAligned s.params.misaligned (some (s.plainEa src))
    (.next ((t.setPc (s.read16 (s.plainEa src))).setK (s.readBank (s.plainEa src))))

/-- JPF mem24 (R309). -/
def execJpfMem (cond : Cond) (src : PlainMem) (s : State) : Result :=
  if s.f.cond cond then goThrough src s s else .next s

/-- CALLF mem24 (R310). -/
def execCallfMem (src : PlainMem) (s : State) : Result := goThrough src s (s.pushFar s.pc)

/-- JPF a24 (R313). -/
def execJpfAbs (cond : Cond) (bank : Byte) (a16 : Word) (s : State) : Result :=
  .next (if s.f.cond cond then (s.setK bank).setPc a16 else s)

/-- CALLF a24 (R314). -/
def execCallfAbs (bank : Byte) (a16 : Word) (s : State) : Result :=
  .next (((s.pushFar s.pc).setK bank).setPc a16)

/-- RST (R318): $FF:($F000 + 16 * num). -/
def execRst (num : Byte) (s : State) : Result :=
  .next (((s.pushFar s.pc).setK 0xFF).setPc (BitVec.ofNat 16 (0xF000 + 16 * num.toNat)))

/-- RET (R315). -/
def execRet (cond : Cond) (s : State) : Result :=
  .next (if s.f.cond cond then s.popped.setPc s.top16 else s)

/-- RETF (R316): the condition is read before the pop. -/
def execRetf (cond : Cond) (s : State) : Result := .next (if s.f.cond cond then s.leave else s)

/-- RETI int (R317). -/
def execReti (int : BitVec 3) (s : State) : Result :=
  .next (s.leave.setE (s.leave.e ||| bitMask int.toNat))

end Sys2Proof.Machine
end

