-- ==== Sys2Proof/WellFormed.lean ====
section
/-! DEFINITION. The instructions that some word encodes. The operand types of Syntax.lean leave four ill-formed terms:
an empty EXS list (its word is NOP, 30_encoding.md R113), PUSH SP and POP SP (RM code 31 means KF and F there, R105), and
`ZnH` in a 16-bit LD (unassigned, R107). -/

namespace Sys2Proof

/-- The EXS list that names no register. -/
def RegList.empty : RegList :=
  ⟨false, false, false, false, false, false, false, false, false, false⟩

/-- A ZM operand a 16-bit LD can have (30_encoding.md R107). -/
def Zm.wf16 : Zm → Bool
  | .high _ => false
  | .auto _ _ _ => true
  | .plusIx _ _ => true
  | .ptr _ _ => true
  | .ixDisp _ _ => true
  | .spDisp _ => true
  | .low _ => true

/-- The instruction has an encoding that decodes to it (30_encoding.md R105, R107, R113). -/
def Instr.wf : Instr → Bool
  | .nop => true
  | .exs list => decide (list ≠ RegList.empty)
  | .djnz8 _ _ => true
  | .djnz16 _ _ => true
  | .halt => true
  | .stop => true
  | .ccf => true
  | .sds => true
  | .daa => true
  | .sao => true
  | .das => true
  | .sau => true
  | .repiReg _ => true
  | .repiImm _ => true
  | .ldpca _ _ => true
  | .ldixa _ _ => true
  | .ldspa _ _ => true
  | .ldFromPortInc _ => true
  | .ldFromF _ => true
  | .ldFromPort _ => true
  | .ldFromC _ => true
  | .ldFromPortDec _ => true
  | .ldFromE _ => true
  | .mulu _ => true
  | .mulsw _ => true
  | .divu _ => true
  | .divsw _ => true
  | .ldPortInc _ => true
  | .ldF _ => true
  | .ldPort _ => true
  | .ldC _ => true
  | .ldPortDec _ => true
  | .ldE _ => true
  | .resf _ => true
  | .di _ => true
  | .setf _ => true
  | .ei _ => true
  | .inc _ _ => true
  | .dec _ _ => true
  | .neg _ => true
  | .cpl _ => true
  | .ngc _ => true
  | .clr _ => true
  | .incw _ _ => true
  | .decw _ _ => true
  | .negw _ => true
  | .cplw _ => true
  | .ngcw _ => true
  | .clrw _ => true
  | .rlc _ => true
  | .rrc _ => true
  | .rl _ => true
  | .rr _ => true
  | .sla _ => true
  | .sra _ => true
  | .swap _ => true
  | .srl _ => true
  | .rlcw _ => true
  | .rrcw _ => true
  | .rlw _ => true
  | .rrw _ => true
  | .slaw _ => true
  | .sraw _ => true
  | .swapw _ => true
  | .srlw _ => true
  | .bitImmPort _ => true
  | .resImmPort _ => true
  | .setImmPort _ => true
  | .bitImm _ _ => true
  | .resImm _ _ => true
  | .setImm _ _ => true
  | .bitAccPort _ => true
  | .resAccPort _ => true
  | .setAccPort _ => true
  | .bitAcc _ _ => true
  | .resAcc _ _ => true
  | .setAcc _ _ => true
  | .ldCImm _ => true
  | .addCImm _ => true
  | .popF => true
  | .popGpr => true
  | .popAll => true
  | .pop dst => decide (dst ≠ .reg .sp)
  | .pushKF => true
  | .pushGpr => true
  | .pushAll => true
  | .push src => decide (src ≠ .loc (.reg .sp))
  | .stZm8 _ _ => true
  | .ldZm8 _ _ => true
  | .stZm16 dst _ => dst.wf16
  | .ldZm16 _ src => src.wf16
  | .ld _ _ => true
  | .ldw _ _ => true
  | .ldRegImm _ _ => true
  | .addImm8 _ _ => true
  | .addSrc8 _ _ => true
  | .addDst8 _ _ => true
  | .addImm16 _ _ => true
  | .addSrc16 _ _ => true
  | .addDst16 _ _ => true
  | .adcImm8 _ _ => true
  | .adcSrc8 _ _ => true
  | .adcDst8 _ _ => true
  | .adcImm16 _ _ => true
  | .adcSrc16 _ _ => true
  | .adcDst16 _ _ => true
  | .subImm8 _ _ => true
  | .subSrc8 _ _ => true
  | .subDst8 _ _ => true
  | .subImm16 _ _ => true
  | .subSrc16 _ _ => true
  | .subDst16 _ _ => true
  | .sbcImm8 _ _ => true
  | .sbcSrc8 _ _ => true
  | .sbcDst8 _ _ => true
  | .sbcImm16 _ _ => true
  | .sbcSrc16 _ _ => true
  | .sbcDst16 _ _ => true
  | .andImm8 _ _ => true
  | .andSrc8 _ _ => true
  | .andDst8 _ _ => true
  | .andImm16 _ _ => true
  | .andSrc16 _ _ => true
  | .andDst16 _ _ => true
  | .xorImm8 _ _ => true
  | .xorSrc8 _ _ => true
  | .xorDst8 _ _ => true
  | .xorImm16 _ _ => true
  | .xorSrc16 _ _ => true
  | .xorDst16 _ _ => true
  | .orImm8 _ _ => true
  | .orSrc8 _ _ => true
  | .orDst8 _ _ => true
  | .orImm16 _ _ => true
  | .orSrc16 _ _ => true
  | .orDst16 _ _ => true
  | .cpImm8 _ _ => true
  | .cpSrc8 _ _ => true
  | .cpDst8 _ _ => true
  | .cpImm16 _ _ => true
  | .cpSrc16 _ _ => true
  | .cpDst16 _ _ => true
  | .callr _ => true
  | .call _ => true
  | .calld _ => true
  | .callfMem _ => true
  | .callrl _ => true
  | .callfAbs _ _ => true
  | .rst _ => true
  | .reti _ => true
  | .jr _ _ => true
  | .jp _ _ => true
  | .jpd _ _ => true
  | .jpfMem _ _ => true
  | .jrl _ _ => true
  | .jpfAbs _ _ _ => true
  | .ret _ => true
  | .retf _ => true

end Sys2Proof
end

