-- ==== Sys2Proof/Decode.lean ====
section
/-! DEFINITION. The decoder and the encoder, both written from 30_encoding.md R100 to R123. -/

namespace Sys2Proof

/-- Why bytes are no instruction (30_encoding.md R121). Each is an illegal encoding but the last, which only a list of
fewer bytes than the instruction can give. -/
inductive DecodeError
  /-- The word matches no pattern (R120). -/
  | unassigned
  /-- An RM code that is illegal in its position (R105). -/
  | illegalOperand
  /-- The pad byte of an 8-bit immediate is not zero (R106, `PAD_NONZERO`). -/
  | padNotZero
  /-- The pad bit of a `pcr15` word is set (R106). -/
  | oddDisplacement
  /-- An odd `111nnnn1` ZM code in a 16-bit LD (R107). -/
  | zmUnassigned
  /-- Fewer bytes than the instruction has. -/
  | truncated
  deriving DecidableEq, Repr

/-- The bits `w[hi:lo]` as a number (00_scope.md R10). -/
def field (w : Word) (hi lo : Nat) : Nat :=
  w.toNat / 2 ^ lo % 2 ^ (hi + 1 - lo)

/-! ## Fields that name registers and operands -/

/-- Column +3 of the RM table, 8-bit (R103, R104). -/
def decodeReg8 : Nat → Option Reg8
  | 3 => some .a | 7 => some .b | 11 => some .h | 15 => some .l
  | 19 => some .i | 23 => some .x | 27 => some .d | 31 => some .s
  | _ => none

/-- The registers in column +3 of the RM table, 16-bit (R103, R104). -/
def decodeReg16 : Nat → Option Reg16
  | 3 => some .ab | 11 => some .hl | 19 => some .ix | 27 => some .ds | 31 => some .sp
  | _ => none

/-- The pseudo-registers in column +3 of the RM table, 16-bit (R103, R104). -/
def decodePseudo : Nat → Option Pseudo
  | 7 => some .asx | 15 => some .bsx | 23 => some .azx
  | _ => none

/-- The memory modes without auto-index (R103); `ext` is the mode's extension word. -/
def decodePlain (code : Nat) (ext : Word) : Option PlainMem :=
  match code with
  | 2 => some (.ab .bank0) | 6 => some (.ab .ds)
  | 10 => some (.hl .bank0) | 14 => some (.hl .ds)
  | 18 => some (.ix .bank0) | 22 => some (.ix .ds)
  | 26 => some .dsPair
  | 4 => some (.direct1 ext) | 8 => some (.direct0 ext) | 12 => some (.directDs ext)
  | 16 => some (.ixDisp .bank0 ext) | 20 => some (.ixDisp .ds ext) | 24 => some (.spDisp ext)
  | _ => none

/-- The memory modes (R103). -/
def decodeMem (code : Nat) (ext : Word) : Option Mem :=
  match code with
  | 1 => some (.auto .bank0 .hl .inc) | 5 => some (.auto .ds .hl .inc)
  | 9 => some (.auto .bank0 .hl .dec) | 13 => some (.auto .ds .hl .dec)
  | 17 => some (.auto .bank0 .ix .inc) | 21 => some (.auto .ds .ix .inc)
  | 25 => some (.auto .bank0 .ix .dec) | 29 => some (.auto .ds .ix .dec)
  | _ => (decodePlain code ext).map .plain

/-- How many extension words an RM code takes: one in column +0 (R100). -/
def rmExtCount (code : Nat) : Nat :=
  if code % 4 = 0 then 1 else 0

/-- An rm8 destination (R105). -/
def decodeLoc8 (code : Nat) (ext : Word) : Except DecodeError Loc8 :=
  match decodeReg8 code, decodeMem code ext with
  | some r, _ => .ok (.reg r)
  | none, some m => .ok (.mem m)
  | none, none => .error .illegalOperand

/-- An rm8 source (R105, R106, `PAD_NONZERO`). -/
def decodeSrc8 (ps : Machine.Params) (code : Nat) (ext : Word) : Except DecodeError Src8 :=
  if code = 0 then
    match ps.padNonzero.imm8 ext with
    | some v => .ok (.imm v)
    | none => .error .padNotZero
  else (decodeLoc8 code ext).map .loc

/-- An rm16 destination (R105). -/
def decodeLoc16 (code : Nat) (ext : Word) : Except DecodeError Loc16 :=
  match decodeReg16 code, decodeMem code ext with
  | some r, _ => .ok (.reg r)
  | none, some m => .ok (.mem m)
  | none, none => .error .illegalOperand

/-- An rm16 source (R105, R106). -/
def decodeSrc16 (code : Nat) (ext : Word) : Except DecodeError Src16 :=
  if code = 0 then .ok (.imm ext)
  else
    match decodePseudo code with
    | some p => .ok (.pseudo p)
    | none => (decodeLoc16 code ext).map .loc

/-- An m24 operand (R105). -/
def decodeM24 (code : Nat) (ext : Word) : Except DecodeError PlainMem :=
  match decodePlain code ext with
  | some m => .ok m
  | none => .error .illegalOperand

/-- A segment bit: 0 bank $00, 1 "DS:" (R107). -/
def decodeSeg (n : Nat) : Seg := if n = 0 then .bank0 else .ds

/-- A direction bit: 0 increment, 1 decrement (R107). -/
def decodeDir (n : Nat) : Dir := if n = 0 then .inc else .dec

/-- The ZM specifier in bits 7:0 of the word (R107). -/
def decodeZm (w : Word) : Zm :=
  let n := BitVec.ofNat 4 (field w 4 1)
  let u := BitVec.ofNat 5 (field w 4 0)
  match field w 7 6 with
  | 0 => .auto (decodeSeg (field w 0 0)) n (decodeDir (field w 5 5))
  | 1 => if field w 5 5 = 0 then .plusIx (decodeSeg (field w 0 0)) n else .ptr (decodeSeg (field w 0 0)) n
  | 2 => if field w 5 5 = 0 then .ixDisp .bank0 u else .spDisp u
  | _ => if field w 5 5 = 0 then .ixDisp .ds u else if field w 0 0 = 0 then .low n else .high n

/-- The ZM specifier of a 16-bit LD (R107). -/
def decodeZm16 (w : Word) : Except DecodeError Zm :=
  if (decodeZm w).wf16 then .ok (decodeZm w) else .error .zmUnassigned

/-- The 8-bit accumulator field (R104). -/
def decodeAcc8 (n : Nat) : Acc8 := if n = 0 then .a else .b

/-- The 16-bit accumulator field (R104). -/
def decodeAcc16 (n : Nat) : Acc16 := if n = 0 then .ab else .hl

/-- The register field of `LD r, imm` (R104). -/
def decodeLdReg : Nat → Reg8
  | 0 => .a | 1 => .h | 2 => .i | 3 => .d | 4 => .b | 5 => .l | 6 => .x | _ => .s

/-- The register field of `REPI r` (R104). -/
def decodeRepReg : Nat → RepReg
  | 0 => .a | 1 => .b | 2 => .h | _ => .l

/-- The condition field (R110); code 15 is decoded before it is asked for (R111). -/
def decodeCond : Nat → Cond
  | 0 => .lt | 1 => .ge | 2 => .le | 3 => .gt | 4 => .ule | 5 => .ugt | 6 => .z | 7 => .nz
  | 8 => .m | 9 => .p | 10 => .pe | 11 => .po | 12 => .c | 13 => .nc | _ => .always

/-! ## The opcode map, group by group -/

/-- Group 0000 (R113). -/
def decodeGroup0 (w : Word) : Except DecodeError Instr :=
  if field w 9 9 = 0 then
    if w = 0 then .ok .nop
    else .ok (.exs
      { f := field w 10 10 = 1, c := field w 8 8 = 1, d := field w 7 7 = 1, s := field w 6 6 = 1,
        i := field w 5 5 = 1, x := field w 4 4 = 1, h := field w 3 3 = 1, l := field w 2 2 = 1,
        a := field w 1 1 = 1, b := field w 0 0 = 1 })
  else if field w 10 10 = 0 then .ok (.djnz8 (decodeAcc8 (field w 8 8)) (BitVec.ofNat 8 (field w 7 0)))
  else .ok (.djnz16 (decodeAcc16 (field w 8 8)) (BitVec.ofNat 8 (field w 7 0)))

/-- The words $1000 to $101F of group 0001 (R114). -/
def decodeSystem (w : Word) : Except DecodeError Instr :=
  if field w 4 4 = 1 then .ok (.repiImm (BitVec.ofNat 4 (field w 3 0)))
  else
    match field w 1 0, field w 3 2 with
    | 0, 0 => .ok .halt
    | 0, 1 => .ok .stop
    | 0, 2 => .ok .ccf
    | 0, _ => .ok .sds
    | 1, 0 => .ok .daa
    | 1, 1 => .ok .sao
    | 1, 2 => .ok .das
    | 1, _ => .ok .sau
    | 3, r => .ok (.repiReg (decodeRepReg r))
    | _, _ => .error .unassigned

/-- Group 0001, `0001000`: system, effective address, loads from a special register (R114, 45_load.md R247). -/
def decodeGroup1From (w e1 e2 : Word) : Except DecodeError Instr :=
  match field w 8 6, field w 5 5 with
  | 0, 0 => decodeSystem w
  | 0, _ => (decodeLoc16 (field w 4 0) e2).map fun d => .ldpca d e1
  | 1, 0 => (decodeLoc16 (field w 4 0) e2).map fun d => .ldixa d e1
  | 1, _ => (decodeLoc16 (field w 4 0) e2).map fun d => .ldspa d e1
  | 2, 0 => (decodeLoc8 (field w 4 0) e1).map .ldFromPortInc
  | 3, 0 => (decodeLoc8 (field w 4 0) e1).map .ldFromF
  | 4, 0 => (decodeLoc8 (field w 4 0) e1).map .ldFromPort
  | 5, 0 => (decodeLoc8 (field w 4 0) e1).map .ldFromC
  | 6, 0 => (decodeLoc8 (field w 4 0) e1).map .ldFromPortDec
  | 7, 0 => (decodeLoc8 (field w 4 0) e1).map .ldFromE
  | _, _ => .error .unassigned

/-- Group 0001, `0001001`: multiply, divide, loads to a special register (R114, 45_load.md R248). -/
def decodeGroup1To (ps : Machine.Params) (w e1 : Word) : Except DecodeError Instr :=
  match field w 8 6, field w 5 5 with
  | 0, 0 => (decodeSrc8 ps (field w 4 0) e1).map .mulu
  | 0, _ => (decodeSrc16 (field w 4 0) e1).map .mulsw
  | 1, 0 => (decodeSrc8 ps (field w 4 0) e1).map .divu
  | 1, _ => (decodeSrc16 (field w 4 0) e1).map .divsw
  | 2, 0 => (decodeSrc8 ps (field w 4 0) e1).map .ldPortInc
  | 3, 0 => (decodeSrc8 ps (field w 4 0) e1).map .ldF
  | 4, 0 => (decodeSrc8 ps (field w 4 0) e1).map .ldPort
  | 5, 0 => (decodeSrc8 ps (field w 4 0) e1).map .ldC
  | 6, 0 => (decodeSrc8 ps (field w 4 0) e1).map .ldPortDec
  | 7, 0 => (decodeSrc8 ps (field w 4 0) e1).map .ldE
  | _, _ => .error .unassigned

/-- Group 0001 (R114). -/
def decodeGroup1 (ps : Machine.Params) (w e1 e2 : Word) : Except DecodeError Instr :=
  if field w 10 10 = 0 then
    if field w 9 9 = 0 then decodeGroup1From w e1 e2 else decodeGroup1To ps w e1
  else
    match field w 9 8 with
    | 0 => .ok (.resf (BitVec.ofNat 8 (field w 7 0)))
    | 1 => .ok (.di (BitVec.ofNat 8 (field w 7 0)))
    | 2 => .ok (.setf (BitVec.ofNat 8 (field w 7 0)))
    | _ => .ok (.ei (BitVec.ofNat 8 (field w 7 0)))

/-- Group 0010, 8-bit half (R115). -/
def decodeGroup2Byte (w e1 : Word) : Except DecodeError Instr :=
  if field w 9 9 = 0 then
    if field w 8 8 = 0 then (decodeLoc8 (field w 4 0) e1).map (.inc (BitVec.ofNat 3 (field w 7 5)))
    else (decodeLoc8 (field w 4 0) e1).map (.dec (BitVec.ofNat 3 (field w 7 5)))
  else if field w 6 5 = 0 then
    match field w 8 7 with
    | 0 => (decodeLoc8 (field w 4 0) e1).map .neg
    | 1 => (decodeLoc8 (field w 4 0) e1).map .cpl
    | 2 => (decodeLoc8 (field w 4 0) e1).map .ngc
    | _ => (decodeLoc8 (field w 4 0) e1).map .clr
  else .error .unassigned

/-- Group 0010, 16-bit half (R115). -/
def decodeGroup2Word (w e1 : Word) : Except DecodeError Instr :=
  if field w 9 9 = 0 then
    if field w 8 8 = 0 then (decodeLoc16 (field w 4 0) e1).map (.incw (BitVec.ofNat 3 (field w 7 5)))
    else (decodeLoc16 (field w 4 0) e1).map (.decw (BitVec.ofNat 3 (field w 7 5)))
  else if field w 6 5 = 0 then
    match field w 8 7 with
    | 0 => (decodeLoc16 (field w 4 0) e1).map .negw
    | 1 => (decodeLoc16 (field w 4 0) e1).map .cplw
    | 2 => (decodeLoc16 (field w 4 0) e1).map .ngcw
    | _ => (decodeLoc16 (field w 4 0) e1).map .clrw
  else .error .unassigned

/-- The 8-bit shifts of group 0011 (R116). -/
def decodeShiftByte (w e1 : Word) : Except DecodeError Instr :=
  match field w 7 5 with
  | 0 => (decodeLoc8 (field w 4 0) e1).map .rlc
  | 1 => (decodeLoc8 (field w 4 0) e1).map .rrc
  | 2 => (decodeLoc8 (field w 4 0) e1).map .rl
  | 3 => (decodeLoc8 (field w 4 0) e1).map .rr
  | 4 => (decodeLoc8 (field w 4 0) e1).map .sla
  | 5 => (decodeLoc8 (field w 4 0) e1).map .sra
  | 6 => (decodeLoc8 (field w 4 0) e1).map .swap
  | _ => (decodeLoc8 (field w 4 0) e1).map .srl

/-- The 16-bit shifts of group 0011 (R116). -/
def decodeShiftWord (w e1 : Word) : Except DecodeError Instr :=
  match field w 7 5 with
  | 0 => (decodeLoc16 (field w 4 0) e1).map .rlcw
  | 1 => (decodeLoc16 (field w 4 0) e1).map .rrcw
  | 2 => (decodeLoc16 (field w 4 0) e1).map .rlw
  | 3 => (decodeLoc16 (field w 4 0) e1).map .rrw
  | 4 => (decodeLoc16 (field w 4 0) e1).map .slaw
  | 5 => (decodeLoc16 (field w 4 0) e1).map .sraw
  | 6 => (decodeLoc16 (field w 4 0) e1).map .swapw
  | _ => (decodeLoc16 (field w 4 0) e1).map .srlw

/-- BIT, RES, SET with the bit number in the word (R116); RM code 30 means `[C]` (R105). -/
def decodeBitImm (ps : Machine.Params) (w e1 : Word) : Except DecodeError Instr :=
  let b := BitVec.ofNat 3 (field w 7 5)
  match field w 9 8 with
  | 1 => if field w 4 0 = 30 then .ok (.bitImmPort b) else (decodeSrc8 ps (field w 4 0) e1).map (.bitImm b)
  | 2 => if field w 4 0 = 30 then .ok (.resImmPort b) else (decodeLoc8 (field w 4 0) e1).map (.resImm b)
  | _ => if field w 4 0 = 30 then .ok (.setImmPort b) else (decodeLoc8 (field w 4 0) e1).map (.setImm b)

/-- BIT, RES, SET with the bit number in A or B (R116). -/
def decodeBitAcc (ps : Machine.Params) (w e1 : Word) : Except DecodeError Instr :=
  let r := decodeAcc8 (field w 7 7)
  if field w 6 5 = 0 then
    match field w 9 8 with
    | 1 => if field w 4 0 = 30 then .ok (.bitAccPort r) else (decodeSrc8 ps (field w 4 0) e1).map (.bitAcc r)
    | 2 => if field w 4 0 = 30 then .ok (.resAccPort r) else (decodeLoc8 (field w 4 0) e1).map (.resAcc r)
    | _ => if field w 4 0 = 30 then .ok (.setAccPort r) else (decodeLoc8 (field w 4 0) e1).map (.setAcc r)
  else .error .unassigned

/-- Group 0011 (R116). -/
def decodeGroup3 (ps : Machine.Params) (w e1 : Word) : Except DecodeError Instr :=
  if field w 9 8 = 0 then
    if field w 10 10 = 0 then decodeShiftByte w e1 else decodeShiftWord w e1
  else if field w 10 10 = 0 then decodeBitImm ps w e1 else decodeBitAcc ps w e1

/-- PUSH and POP in group 0100 (R117). -/
def decodeStack (w e1 : Word) : Except DecodeError Instr :=
  match field w 7 0 with
  | 0x1F => .ok .popF
  | 0x3F => .ok .popGpr
  | 0x7F => .ok .popAll
  | 0x9F => .ok .pushKF
  | 0xBF => .ok .pushGpr
  | 0xFF => .ok .pushAll
  | _ =>
    match field w 7 5 with
    | 0 => (decodeLoc16 (field w 4 0) e1).map .pop
    | 4 => (decodeSrc16 (field w 4 0) e1).map .push
    | _ => .error .unassigned

/-- Group 0100 (R117). -/
def decodeGroup4 (w e1 : Word) : Except DecodeError Instr :=
  match field w 10 8 with
  | 0 => .ok (.ldCImm (BitVec.ofNat 8 (field w 7 0)))
  | 1 => .ok (.addCImm (BitVec.ofNat 8 (field w 7 0)))
  | 3 => decodeStack w e1
  | _ => .error .unassigned

/-- Group 0101, LD with a ZM operand (R117). -/
def decodeGroup5 (w : Word) : Except DecodeError Instr :=
  match field w 10 9 with
  | 0 => .ok (.stZm8 (decodeZm w) (decodeAcc8 (field w 8 8)))
  | 1 => .ok (.ldZm8 (decodeAcc8 (field w 8 8)) (decodeZm w))
  | 2 => (decodeZm16 w).map fun z => .stZm16 z (decodeAcc16 (field w 8 8))
  | _ => (decodeZm16 w).map fun z => .ldZm16 (decodeAcc16 (field w 8 8)) z

/-- Of two RM operands, the extension word of the left one: the second word when the right operand has one too (R101). -/
def leftExt (srcCode : Nat) (e1 e2 : Word) : Word :=
  if rmExtCount srcCode = 1 then e2 else e1

/-- Group 0110, LD and LDW with two RM fields (R117). -/
def decodeGroup6 (ps : Machine.Params) (w e1 e2 : Word) : Except DecodeError Instr :=
  let e := leftExt (field w 4 0) e1 e2
  if field w 10 10 = 0 then
    match decodeSrc8 ps (field w 4 0) e1, decodeLoc8 (field w 9 5) e with
    | .ok s, .ok d => .ok (.ld d s)
    | .error r, _ => .error r
    | _, .error r => .error r
  else
    match decodeSrc16 (field w 4 0) e1, decodeLoc16 (field w 9 5) e with
    | .ok s, .ok d => .ok (.ldw d s)
    | .error r, _ => .error r
    | _, .error r => .error r

/-- Group 0111, `LD r, imm` (R117). -/
def decodeGroup7 (w : Word) : Except DecodeError Instr :=
  .ok (.ldRegImm (decodeLdReg (field w 10 8)) (BitVec.ofNat 8 (field w 7 0)))

/-! ## Group 1ooo: the ALU (R118); bits 14:12 are ADD ADC SUB SBC AND XOR OR CP -/

/-- The eight operations in the form Imm8 (47_alu.md R280). -/
def aluImm8 (op : Nat) (r : Acc8) (imm : Byte) : Instr :=
  match op with
  | 0 => .addImm8 r imm
  | 1 => .adcImm8 r imm
  | 2 => .subImm8 r imm
  | 3 => .sbcImm8 r imm
  | 4 => .andImm8 r imm
  | 5 => .xorImm8 r imm
  | 6 => .orImm8 r imm
  | _ => .cpImm8 r imm

/-- The eight operations in the form Src8 (47_alu.md R280). -/
def aluSrc8 (op : Nat) (r : Acc8) (src : Src8) : Instr :=
  match op with
  | 0 => .addSrc8 r src
  | 1 => .adcSrc8 r src
  | 2 => .subSrc8 r src
  | 3 => .sbcSrc8 r src
  | 4 => .andSrc8 r src
  | 5 => .xorSrc8 r src
  | 6 => .orSrc8 r src
  | _ => .cpSrc8 r src

/-- The eight operations in the form Dst8 (47_alu.md R280). -/
def aluDst8 (op : Nat) (r : Acc8) (dst : Loc8) : Instr :=
  match op with
  | 0 => .addDst8 dst r
  | 1 => .adcDst8 dst r
  | 2 => .subDst8 dst r
  | 3 => .sbcDst8 dst r
  | 4 => .andDst8 dst r
  | 5 => .xorDst8 dst r
  | 6 => .orDst8 dst r
  | _ => .cpDst8 dst r

/-- The eight operations in the form Imm16 (47_alu.md R280). -/
def aluImm16 (op : Nat) (r : Acc16) (imm : Byte) : Instr :=
  match op with
  | 0 => .addImm16 r imm
  | 1 => .adcImm16 r imm
  | 2 => .subImm16 r imm
  | 3 => .sbcImm16 r imm
  | 4 => .andImm16 r imm
  | 5 => .xorImm16 r imm
  | 6 => .orImm16 r imm
  | _ => .cpImm16 r imm

/-- The eight operations in the form Src16 (47_alu.md R280). -/
def aluSrc16 (op : Nat) (r : Acc16) (src : Src16) : Instr :=
  match op with
  | 0 => .addSrc16 r src
  | 1 => .adcSrc16 r src
  | 2 => .subSrc16 r src
  | 3 => .sbcSrc16 r src
  | 4 => .andSrc16 r src
  | 5 => .xorSrc16 r src
  | 6 => .orSrc16 r src
  | _ => .cpSrc16 r src

/-- The eight operations in the form Dst16 (47_alu.md R280). -/
def aluDst16 (op : Nat) (r : Acc16) (dst : Loc16) : Instr :=
  match op with
  | 0 => .addDst16 dst r
  | 1 => .adcDst16 dst r
  | 2 => .subDst16 dst r
  | 3 => .sbcDst16 dst r
  | 4 => .andDst16 dst r
  | 5 => .xorDst16 dst r
  | 6 => .orDst16 dst r
  | _ => .cpDst16 dst r

/-- The ALU group (R118, R120). -/
def decodeAlu (ps : Machine.Params) (w e1 : Word) : Except DecodeError Instr :=
  let op := field w 14 12
  if field w 9 9 = 0 then
    if field w 10 10 = 0 then .ok (aluImm8 op (decodeAcc8 (field w 8 8)) (BitVec.ofNat 8 (field w 7 0)))
    else .ok (aluImm16 op (decodeAcc16 (field w 8 8)) (BitVec.ofNat 8 (field w 7 0)))
  else
    match field w 7 5, field w 10 10 with
    | 0, 0 => (decodeSrc8 ps (field w 4 0) e1).map (aluSrc8 op (decodeAcc8 (field w 8 8)))
    | 1, 0 => (decodeLoc8 (field w 4 0) e1).map (aluDst8 op (decodeAcc8 (field w 8 8)))
    | 0, _ => (decodeSrc16 (field w 4 0) e1).map (aluSrc16 op (decodeAcc16 (field w 8 8)))
    | 1, _ => (decodeLoc16 (field w 4 0) e1).map (aluDst16 op (decodeAcc16 (field w 8 8)))
    | _, _ => .error .unassigned

/-! ## Control transfers (R119) -/

/-- The calls and RST: condition field 15 (R111). -/
def decodeCall (ps : Machine.Params) (w e1 : Word) : Except DecodeError Instr :=
  if field w 10 10 = 0 then .ok (.callr (BitVec.ofNat 10 (field w 9 0)))
  else
    match field w 9 8 with
    | 0 =>
      match field w 7 5 with
      | 0 => (decodeSrc16 (field w 4 0) e1).map .call
      | 4 => (decodeSrc16 (field w 4 0) e1).map .calld
      | 6 => (decodeM24 (field w 4 0) e1).map .callfMem
      | _ => .error .unassigned
    | 1 =>
      if field w 7 0 = 0 then
        match ps.pcr15Layout.offset e1 with
        | some offset => .ok (.callrl offset)
        | none => .error .oddDisplacement
      else .error .unassigned
    | 2 => .ok (.callfAbs (BitVec.ofNat 8 (field w 7 0)) e1)
    | _ => .ok (.rst (BitVec.ofNat 8 (field w 7 0)))

/-- The returns: RET, RETF and the eight words of RETI (R119, R120). -/
def decodeReturn (w : Word) : Except DecodeError Instr :=
  if field w 7 0 = 0 then .ok (.ret (decodeCond (field w 15 12)))
  else if field w 7 0 = 0x80 then .ok (.retf (decodeCond (field w 15 12)))
  else if field w 15 12 = 14 ∧ field w 4 0 = 0x10 then .ok (.reti (BitVec.ofNat 3 (field w 7 5)))
  else .error .unassigned

/-- The jumps and returns: condition fields 0 to 14 (R119). -/
def decodeJump (ps : Machine.Params) (w e1 : Word) : Except DecodeError Instr :=
  let cond := decodeCond (field w 15 12)
  if field w 10 10 = 0 then .ok (.jr cond (BitVec.ofNat 10 (field w 9 0)))
  else
    match field w 9 8 with
    | 0 =>
      match field w 7 5 with
      | 0 => (decodeSrc16 (field w 4 0) e1).map (.jp cond)
      | 4 => (decodeSrc16 (field w 4 0) e1).map (.jpd cond)
      | 6 => (decodeM24 (field w 4 0) e1).map (.jpfMem cond)
      | _ => .error .unassigned
    | 1 =>
      if field w 7 0 = 0 then
        match ps.pcr15Layout.offset e1 with
        | some offset => .ok (.jrl cond offset)
        | none => .error .oddDisplacement
      else .error .unassigned
    | 2 => .ok (.jpfAbs cond (BitVec.ofNat 8 (field w 7 0)) e1)
    | _ => decodeReturn w

/-- The instruction whose word is `w` and whose next two words are `e1` and `e2`, whether it uses them or not
(R112, R123), under the parameters `PAD_NONZERO` and `PCR15_LAYOUT` (R106). -/
def decode (ps : Machine.Params) (w e1 e2 : Word) : Except DecodeError Instr :=
  if field w 11 11 = 1 then
    if field w 15 12 = 15 then decodeCall ps w e1 else decodeJump ps w e1
  else
    match field w 15 12 with
    | 0 => decodeGroup0 w
    | 1 => decodeGroup1 ps w e1 e2
    | 2 => if field w 10 10 = 0 then decodeGroup2Byte w e1 else decodeGroup2Word w e1
    | 3 => decodeGroup3 ps w e1
    | 4 => decodeGroup4 w e1
    | 5 => decodeGroup5 w
    | 6 => decodeGroup6 ps w e1 e2
    | 7 => decodeGroup7 w
    | _ => decodeAlu ps w e1

/-! ## The encoder -/

/-- Column +3 of the RM table, 8-bit (R104). -/
def Reg8.code : Reg8 → Nat
  | .a => 3 | .b => 7 | .h => 11 | .l => 15 | .i => 19 | .x => 23 | .d => 27 | .s => 31

/-- The registers in column +3 of the RM table, 16-bit (R104). -/
def Reg16.code : Reg16 → Nat
  | .ab => 3 | .hl => 11 | .ix => 19 | .ds => 27 | .sp => 31

/-- The pseudo-registers in column +3 of the RM table, 16-bit (R104). -/
def Pseudo.code : Pseudo → Nat
  | .asx => 7 | .bsx => 15 | .azx => 23

/-- The RM code of a plain memory mode (R103). -/
def PlainMem.code : PlainMem → Nat
  | .ab .bank0 => 2 | .ab .ds => 6
  | .hl .bank0 => 10 | .hl .ds => 14
  | .ix .bank0 => 18 | .ix .ds => 22
  | .dsPair => 26
  | .direct0 _ => 8 | .direct1 _ => 4 | .directDs _ => 12
  | .ixDisp .bank0 _ => 16 | .ixDisp .ds _ => 20 | .spDisp _ => 24

/-- The extension word of a plain memory mode, if it has one (R103). -/
def PlainMem.ext : PlainMem → List Word
  | .ab _ => [] | .hl _ => [] | .ix _ => [] | .dsPair => []
  | .direct0 a => [a] | .direct1 a => [a] | .directDs a => [a]
  | .ixDisp _ imm => [imm] | .spDisp imm => [imm]

/-- The RM code of a memory mode (R103). -/
def Mem.code : Mem → Nat
  | .plain m => m.code
  | .auto .bank0 .hl .inc => 1 | .auto .ds .hl .inc => 5
  | .auto .bank0 .hl .dec => 9 | .auto .ds .hl .dec => 13
  | .auto .bank0 .ix .inc => 17 | .auto .ds .ix .inc => 21
  | .auto .bank0 .ix .dec => 25 | .auto .ds .ix .dec => 29

/-- The extension word of a memory mode, if it has one (R103). -/
def Mem.ext : Mem → List Word
  | .plain m => m.ext
  | .auto _ _ _ => []

/-- The RM code of an rm8 destination. -/
def Loc8.code : Loc8 → Nat
  | .reg r => r.code
  | .mem m => m.code

/-- The extension word of an rm8 destination, if it has one. -/
def Loc8.ext : Loc8 → List Word
  | .reg _ => []
  | .mem m => m.ext

/-- The RM code of an rm8 source. -/
def Src8.code : Src8 → Nat
  | .imm _ => 0
  | .loc l => l.code

/-- The extension word of an rm8 source, if it has one; an immediate is padded with a zero high byte (R106). -/
def Src8.ext : Src8 → List Word
  | .imm v => [0#8 ++ v]
  | .loc l => l.ext

/-- The RM code of an rm16 destination. -/
def Loc16.code : Loc16 → Nat
  | .reg r => r.code
  | .mem m => m.code

/-- The extension word of an rm16 destination, if it has one. -/
def Loc16.ext : Loc16 → List Word
  | .reg _ => []
  | .mem m => m.ext

/-- The RM code of an rm16 source. -/
def Src16.code : Src16 → Nat
  | .imm _ => 0
  | .pseudo p => p.code
  | .loc l => l.code

/-- The extension word of an rm16 source, if it has one. -/
def Src16.ext : Src16 → List Word
  | .imm v => [v]
  | .pseudo _ => []
  | .loc l => l.ext

/-- The segment bit of a ZM code. -/
def Seg.code : Seg → Nat
  | .bank0 => 0 | .ds => 1

/-- The direction bit of a ZM code. -/
def Dir.code : Dir → Nat
  | .inc => 0 | .dec => 1

/-- The ZM code (R107). -/
def Zm.code : Zm → Nat
  | .auto seg n dir => dir.code * 32 + n.toNat * 2 + seg.code
  | .plusIx seg n => 64 + n.toNat * 2 + seg.code
  | .ptr seg n => 96 + n.toNat * 2 + seg.code
  | .ixDisp .bank0 u => 128 + u.toNat
  | .ixDisp .ds u => 192 + u.toNat
  | .spDisp u => 160 + u.toNat
  | .low n => 224 + n.toNat * 2
  | .high n => 225 + n.toNat * 2

/-- The 8-bit accumulator field (R104). -/
def Acc8.code : Acc8 → Nat
  | .a => 0 | .b => 1

/-- The 16-bit accumulator field (R104). -/
def Acc16.code : Acc16 → Nat
  | .ab => 0 | .hl => 1

/-- The register field of `LD r, imm` (R104). -/
def Reg8.ldCode : Reg8 → Nat
  | .a => 0 | .h => 1 | .i => 2 | .d => 3 | .b => 4 | .l => 5 | .x => 6 | .s => 7

/-- The register field of `REPI r` (R104). -/
def RepReg.code : RepReg → Nat
  | .a => 0 | .b => 1 | .h => 2 | .l => 3

/-- The condition field (R110). -/
def Cond.code : Cond → Nat
  | .lt => 0 | .ge => 1 | .le => 2 | .gt => 3 | .ule => 4 | .ugt => 5 | .z => 6 | .nz => 7
  | .m => 8 | .p => 9 | .pe => 10 | .po => 11 | .c => 12 | .nc => 13 | .always => 14

/-- The list bits of EXS, `00000f0cdsixhlab` (R113). -/
def RegList.code (r : RegList) : Nat :=
  r.f.toNat * 1024 + r.c.toNat * 256 + r.d.toNat * 128 + r.s.toNat * 64 + r.i.toNat * 32 + r.x.toNat * 16
    + r.h.toNat * 8 + r.l.toNat * 4 + r.a.toNat * 2 + r.b.toNat

/-- The instruction word as a number (R113 to R119). -/
def Instr.opcode : Instr → Nat
  | .nop => 0x0000
  | .exs list => list.code
  | .djnz8 r p => 0x0200 + r.code * 256 + p.toNat
  | .djnz16 r p => 0x0600 + r.code * 256 + p.toNat
  | .halt => 0x1000
  | .stop => 0x1004
  | .ccf => 0x1008
  | .sds => 0x100C
  | .daa => 0x1001
  | .sao => 0x1005
  | .das => 0x1009
  | .sau => 0x100D
  | .repiReg r => 0x1003 + r.code * 4
  | .repiImm n => 0x1010 + n.toNat
  | .ldpca d _ => 0x1020 + d.code
  | .ldixa d _ => 0x1040 + d.code
  | .ldspa d _ => 0x1060 + d.code
  | .ldFromPortInc d => 0x1080 + d.code
  | .ldFromF d => 0x10C0 + d.code
  | .ldFromPort d => 0x1100 + d.code
  | .ldFromC d => 0x1140 + d.code
  | .ldFromPortDec d => 0x1180 + d.code
  | .ldFromE d => 0x11C0 + d.code
  | .mulu s => 0x1200 + s.code
  | .mulsw s => 0x1220 + s.code
  | .divu s => 0x1240 + s.code
  | .divsw s => 0x1260 + s.code
  | .ldPortInc s => 0x1280 + s.code
  | .ldF s => 0x12C0 + s.code
  | .ldPort s => 0x1300 + s.code
  | .ldC s => 0x1340 + s.code
  | .ldPortDec s => 0x1380 + s.code
  | .ldE s => 0x13C0 + s.code
  | .resf m => 0x1400 + m.toNat
  | .di m => 0x1500 + m.toNat
  | .setf m => 0x1600 + m.toNat
  | .ei m => 0x1700 + m.toNat
  | .inc n d => 0x2000 + n.toNat * 32 + d.code
  | .dec n d => 0x2100 + n.toNat * 32 + d.code
  | .neg d => 0x2200 + d.code
  | .cpl d => 0x2280 + d.code
  | .ngc d => 0x2300 + d.code
  | .clr d => 0x2380 + d.code
  | .incw n d => 0x2400 + n.toNat * 32 + d.code
  | .decw n d => 0x2500 + n.toNat * 32 + d.code
  | .negw d => 0x2600 + d.code
  | .cplw d => 0x2680 + d.code
  | .ngcw d => 0x2700 + d.code
  | .clrw d => 0x2780 + d.code
  | .rlc d => 0x3000 + d.code
  | .rrc d => 0x3020 + d.code
  | .rl d => 0x3040 + d.code
  | .rr d => 0x3060 + d.code
  | .sla d => 0x3080 + d.code
  | .sra d => 0x30A0 + d.code
  | .swap d => 0x30C0 + d.code
  | .srl d => 0x30E0 + d.code
  | .rlcw d => 0x3400 + d.code
  | .rrcw d => 0x3420 + d.code
  | .rlw d => 0x3440 + d.code
  | .rrw d => 0x3460 + d.code
  | .slaw d => 0x3480 + d.code
  | .sraw d => 0x34A0 + d.code
  | .swapw d => 0x34C0 + d.code
  | .srlw d => 0x34E0 + d.code
  | .bitImmPort b => 0x311E + b.toNat * 32
  | .resImmPort b => 0x321E + b.toNat * 32
  | .setImmPort b => 0x331E + b.toNat * 32
  | .bitImm b l => 0x3100 + b.toNat * 32 + l.code
  | .resImm b l => 0x3200 + b.toNat * 32 + l.code
  | .setImm b l => 0x3300 + b.toNat * 32 + l.code
  | .bitAccPort r => 0x351E + r.code * 128
  | .resAccPort r => 0x361E + r.code * 128
  | .setAccPort r => 0x371E + r.code * 128
  | .bitAcc r l => 0x3500 + r.code * 128 + l.code
  | .resAcc r l => 0x3600 + r.code * 128 + l.code
  | .setAcc r l => 0x3700 + r.code * 128 + l.code
  | .ldCImm i => 0x4000 + i.toNat
  | .addCImm i => 0x4100 + i.toNat
  | .popF => 0x431F
  | .popGpr => 0x433F
  | .popAll => 0x437F
  | .pop d => 0x4300 + d.code
  | .pushKF => 0x439F
  | .pushGpr => 0x43BF
  | .pushAll => 0x43FF
  | .push s => 0x4380 + s.code
  | .stZm8 z r => 0x5000 + r.code * 256 + z.code
  | .ldZm8 r z => 0x5200 + r.code * 256 + z.code
  | .stZm16 z r => 0x5400 + r.code * 256 + z.code
  | .ldZm16 r z => 0x5600 + r.code * 256 + z.code
  | .ld d s => 0x6000 + d.code * 32 + s.code
  | .ldw d s => 0x6400 + d.code * 32 + s.code
  | .ldRegImm r i => 0x7000 + r.ldCode * 256 + i.toNat
  | .addImm8 r i => 0x8000 + r.code * 256 + i.toNat
  | .addSrc8 r s => 0x8200 + r.code * 256 + s.code
  | .addDst8 d r => 0x8220 + r.code * 256 + d.code
  | .addImm16 r i => 0x8400 + r.code * 256 + i.toNat
  | .addSrc16 r s => 0x8600 + r.code * 256 + s.code
  | .addDst16 d r => 0x8620 + r.code * 256 + d.code
  | .adcImm8 r i => 0x9000 + r.code * 256 + i.toNat
  | .adcSrc8 r s => 0x9200 + r.code * 256 + s.code
  | .adcDst8 d r => 0x9220 + r.code * 256 + d.code
  | .adcImm16 r i => 0x9400 + r.code * 256 + i.toNat
  | .adcSrc16 r s => 0x9600 + r.code * 256 + s.code
  | .adcDst16 d r => 0x9620 + r.code * 256 + d.code
  | .subImm8 r i => 0xA000 + r.code * 256 + i.toNat
  | .subSrc8 r s => 0xA200 + r.code * 256 + s.code
  | .subDst8 d r => 0xA220 + r.code * 256 + d.code
  | .subImm16 r i => 0xA400 + r.code * 256 + i.toNat
  | .subSrc16 r s => 0xA600 + r.code * 256 + s.code
  | .subDst16 d r => 0xA620 + r.code * 256 + d.code
  | .sbcImm8 r i => 0xB000 + r.code * 256 + i.toNat
  | .sbcSrc8 r s => 0xB200 + r.code * 256 + s.code
  | .sbcDst8 d r => 0xB220 + r.code * 256 + d.code
  | .sbcImm16 r i => 0xB400 + r.code * 256 + i.toNat
  | .sbcSrc16 r s => 0xB600 + r.code * 256 + s.code
  | .sbcDst16 d r => 0xB620 + r.code * 256 + d.code
  | .andImm8 r i => 0xC000 + r.code * 256 + i.toNat
  | .andSrc8 r s => 0xC200 + r.code * 256 + s.code
  | .andDst8 d r => 0xC220 + r.code * 256 + d.code
  | .andImm16 r i => 0xC400 + r.code * 256 + i.toNat
  | .andSrc16 r s => 0xC600 + r.code * 256 + s.code
  | .andDst16 d r => 0xC620 + r.code * 256 + d.code
  | .xorImm8 r i => 0xD000 + r.code * 256 + i.toNat
  | .xorSrc8 r s => 0xD200 + r.code * 256 + s.code
  | .xorDst8 d r => 0xD220 + r.code * 256 + d.code
  | .xorImm16 r i => 0xD400 + r.code * 256 + i.toNat
  | .xorSrc16 r s => 0xD600 + r.code * 256 + s.code
  | .xorDst16 d r => 0xD620 + r.code * 256 + d.code
  | .orImm8 r i => 0xE000 + r.code * 256 + i.toNat
  | .orSrc8 r s => 0xE200 + r.code * 256 + s.code
  | .orDst8 d r => 0xE220 + r.code * 256 + d.code
  | .orImm16 r i => 0xE400 + r.code * 256 + i.toNat
  | .orSrc16 r s => 0xE600 + r.code * 256 + s.code
  | .orDst16 d r => 0xE620 + r.code * 256 + d.code
  | .cpImm8 r i => 0xF000 + r.code * 256 + i.toNat
  | .cpSrc8 r s => 0xF200 + r.code * 256 + s.code
  | .cpDst8 d r => 0xF220 + r.code * 256 + d.code
  | .cpImm16 r i => 0xF400 + r.code * 256 + i.toNat
  | .cpSrc16 r s => 0xF600 + r.code * 256 + s.code
  | .cpDst16 d r => 0xF620 + r.code * 256 + d.code
  | .callr p => 0xF800 + p.toNat
  | .call a => 0xFC00 + a.code
  | .calld a => 0xFC80 + a.code
  | .callfMem m => 0xFCC0 + m.code
  | .callrl _ => 0xFD00
  | .callfAbs b _ => 0xFE00 + b.toNat
  | .rst n => 0xFF00 + n.toNat
  | .reti n => 0xEF10 + n.toNat * 32
  | .jr cond p => 0x0800 + cond.code * 4096 + p.toNat
  | .jp cond a => 0x0C00 + cond.code * 4096 + a.code
  | .jpd cond a => 0x0C80 + cond.code * 4096 + a.code
  | .jpfMem cond m => 0x0CC0 + cond.code * 4096 + m.code
  | .jrl cond _ => 0x0D00 + cond.code * 4096
  | .jpfAbs cond b _ => 0x0E00 + cond.code * 4096 + b.toNat
  | .ret cond => 0x0F00 + cond.code * 4096
  | .retf cond => 0x0F80 + cond.code * 4096

/-- The extension words, the right operand's first (R100, R101). -/
def Instr.ext (ps : Machine.Params) : Instr → List Word
  | .nop => []
  | .exs _ => []
  | .djnz8 _ _ => []
  | .djnz16 _ _ => []
  | .halt => []
  | .stop => []
  | .ccf => []
  | .sds => []
  | .daa => []
  | .sao => []
  | .das => []
  | .sau => []
  | .repiReg _ => []
  | .repiImm _ => []
  | .ldpca d v => v :: d.ext
  | .ldixa d v => v :: d.ext
  | .ldspa d v => v :: d.ext
  | .ldFromPortInc o => o.ext
  | .ldFromF o => o.ext
  | .ldFromPort o => o.ext
  | .ldFromC o => o.ext
  | .ldFromPortDec o => o.ext
  | .ldFromE o => o.ext
  | .mulu o => o.ext
  | .mulsw o => o.ext
  | .divu o => o.ext
  | .divsw o => o.ext
  | .ldPortInc o => o.ext
  | .ldF o => o.ext
  | .ldPort o => o.ext
  | .ldC o => o.ext
  | .ldPortDec o => o.ext
  | .ldE o => o.ext
  | .resf _ => []
  | .di _ => []
  | .setf _ => []
  | .ei _ => []
  | .inc _ o => o.ext
  | .dec _ o => o.ext
  | .neg o => o.ext
  | .cpl o => o.ext
  | .ngc o => o.ext
  | .clr o => o.ext
  | .incw _ o => o.ext
  | .decw _ o => o.ext
  | .negw o => o.ext
  | .cplw o => o.ext
  | .ngcw o => o.ext
  | .clrw o => o.ext
  | .rlc o => o.ext
  | .rrc o => o.ext
  | .rl o => o.ext
  | .rr o => o.ext
  | .sla o => o.ext
  | .sra o => o.ext
  | .swap o => o.ext
  | .srl o => o.ext
  | .rlcw o => o.ext
  | .rrcw o => o.ext
  | .rlw o => o.ext
  | .rrw o => o.ext
  | .slaw o => o.ext
  | .sraw o => o.ext
  | .swapw o => o.ext
  | .srlw o => o.ext
  | .bitImmPort _ => []
  | .resImmPort _ => []
  | .setImmPort _ => []
  | .bitImm _ o => o.ext
  | .resImm _ o => o.ext
  | .setImm _ o => o.ext
  | .bitAccPort _ => []
  | .resAccPort _ => []
  | .setAccPort _ => []
  | .bitAcc _ o => o.ext
  | .resAcc _ o => o.ext
  | .setAcc _ o => o.ext
  | .ldCImm _ => []
  | .addCImm _ => []
  | .popF => []
  | .popGpr => []
  | .popAll => []
  | .pop o => o.ext
  | .pushKF => []
  | .pushGpr => []
  | .pushAll => []
  | .push o => o.ext
  | .stZm8 _ _ => []
  | .ldZm8 _ _ => []
  | .stZm16 _ _ => []
  | .ldZm16 _ _ => []
  | .ld d s => s.ext ++ d.ext
  | .ldw d s => s.ext ++ d.ext
  | .ldRegImm _ _ => []
  | .addImm8 _ _ => []
  | .addSrc8 _ o => o.ext
  | .addDst8 o _ => o.ext
  | .addImm16 _ _ => []
  | .addSrc16 _ o => o.ext
  | .addDst16 o _ => o.ext
  | .adcImm8 _ _ => []
  | .adcSrc8 _ o => o.ext
  | .adcDst8 o _ => o.ext
  | .adcImm16 _ _ => []
  | .adcSrc16 _ o => o.ext
  | .adcDst16 o _ => o.ext
  | .subImm8 _ _ => []
  | .subSrc8 _ o => o.ext
  | .subDst8 o _ => o.ext
  | .subImm16 _ _ => []
  | .subSrc16 _ o => o.ext
  | .subDst16 o _ => o.ext
  | .sbcImm8 _ _ => []
  | .sbcSrc8 _ o => o.ext
  | .sbcDst8 o _ => o.ext
  | .sbcImm16 _ _ => []
  | .sbcSrc16 _ o => o.ext
  | .sbcDst16 o _ => o.ext
  | .andImm8 _ _ => []
  | .andSrc8 _ o => o.ext
  | .andDst8 o _ => o.ext
  | .andImm16 _ _ => []
  | .andSrc16 _ o => o.ext
  | .andDst16 o _ => o.ext
  | .xorImm8 _ _ => []
  | .xorSrc8 _ o => o.ext
  | .xorDst8 o _ => o.ext
  | .xorImm16 _ _ => []
  | .xorSrc16 _ o => o.ext
  | .xorDst16 o _ => o.ext
  | .orImm8 _ _ => []
  | .orSrc8 _ o => o.ext
  | .orDst8 o _ => o.ext
  | .orImm16 _ _ => []
  | .orSrc16 _ o => o.ext
  | .orDst16 o _ => o.ext
  | .cpImm8 _ _ => []
  | .cpSrc8 _ o => o.ext
  | .cpDst8 o _ => o.ext
  | .cpImm16 _ _ => []
  | .cpSrc16 _ o => o.ext
  | .cpDst16 o _ => o.ext
  | .callr _ => []
  | .call o => o.ext
  | .calld o => o.ext
  | .callfMem o => o.ext
  | .callrl offset => [ps.pcr15Layout.word offset]
  | .callfAbs _ a => [a]
  | .rst _ => []
  | .reti _ => []
  | .jr _ _ => []
  | .jp _ o => o.ext
  | .jpd _ o => o.ext
  | .jpfMem _ o => o.ext
  | .jrl _ offset => [ps.pcr15Layout.word offset]
  | .jpfAbs _ _ a => [a]
  | .ret _ => []
  | .retf _ => []

/-- The words of an instruction (R100); the parameters say where JRL and CALLRL have their offset. -/
def encode (ps : Machine.Params) (i : Instr) : List Word :=
  BitVec.ofNat 16 i.opcode :: i.ext ps

/-- The length in bytes: 2, 4 or 6 (R100). The parameters move bits inside a word and add none, so any of them do. -/
def Instr.byteLength (i : Instr) : Nat :=
  2 * (1 + (i.ext .default).length)

/-! ## Bytes -/

/-- The word at the head of a list of bytes, low byte first (20_memory.md R63); a missing byte reads $00. -/
def wordOfBytes : List Byte → Word
  | [] => 0
  | [lo] => BitVec.ofNat 16 lo.toNat
  | lo :: hi :: _ => BitVec.ofNat 16 (lo.toNat + 256 * hi.toNat)

/-- Decode the instruction at the head of a list of bytes, and what is left of the list. -/
def decodeBytes (ps : Machine.Params) (bs : List Byte) : Except DecodeError (Instr × List Byte) :=
  if bs.length < 2 then .error .truncated
  else
    match decode ps (wordOfBytes bs) (wordOfBytes (bs.drop 2)) (wordOfBytes (bs.drop 4)) with
    | .error e => .error e
    | .ok i => if bs.length < i.byteLength then .error .truncated else .ok (i, bs.drop i.byteLength)

/-- The bytes of a list of words, each low byte first (20_memory.md R63). -/
def bytesOfWords : List Word → List Byte
  | [] => []
  | w :: ws => BitVec.ofNat 8 (field w 7 0) :: BitVec.ofNat 8 (field w 15 8) :: bytesOfWords ws

/-- The six bytes of the longest instruction whose first `nbits` bits are those of `w` and whose other bits are 0. -/
def tableBytes (nbits w : Nat) : List Byte :=
  let v := w % 2 ^ nbits
  bytesOfWords [BitVec.ofNat 16 v, BitVec.ofNat 16 (v / 65536), BitVec.ofNat 16 (v / 4294967296)]

/-- The instruction that the decoder, with the default parameters, reads from a row of spec/opcode_table.json, its bits
numbered as the table numbers them and every bit above `nbits` zero; none where it refuses. -/
def decodeTableWord (nbits w : Nat) : Option Instr :=
  match decodeBytes .default (tableBytes nbits w) with
  | .ok (i, _) => some i
  | .error _ => none

end Sys2Proof
end

