-- ==== Sys2Proof/Machine/Fetch.lean ====
section
/-! DEFINITION. Fetching the words of an instruction (spec/20_memory.md R61), and placing them. -/

namespace Sys2Proof.Machine

/-- The location K:off of the program bank (R61). -/
def State.codeEa (s : State) (off : Word) : Ea := Ea.inBank s.k off

/-- The instruction or extension word at K:off (R61, R63). -/
def State.fetchWord (s : State) (off : Word) : Word := s.read16 (s.codeEa off)

/-- The instruction at K:off; extension words are at off + 2 and off + 4 modulo 2^16 (R61; 10_state.md R29). -/
def State.fetchAt (s : State) (off : Word) : Except DecodeError Instr :=
  decode s.params (s.fetchWord off) (s.fetchWord (off + 2)) (s.fetchWord (off + 4))

/-- The addresses of `n` bytes of code from K:off. -/
def State.codeBytes (s : State) (off : Word) (n : Nat) : List Addr :=
  (List.range n).map (s.codeEa off).byte

/-- Store bytes at K:off, the first at `off + n`. -/
def State.placeBytes (off : Word) : Nat → List Byte → State → State
  | _, [], s => s
  | n, b :: bs, s => State.placeBytes off (n + 1) bs (s.writeByte ((s.codeEa off).byte n) b)

end Sys2Proof.Machine
end

