-- ==== Sys2Proof/Machine/Address.lean ====
section
/-! DEFINITION. The effective-address instructions of spec/41_effective_address.md. PC holds PCnext (log 13). -/

namespace Sys2Proof.Machine

/-- LDPCA dest, pcr16 (R170): the destination first, then `D <- K` and `F.D <- 1`, then the auto-index. -/
def execLdpca (dst : Loc16) (pcr16 : Word) (s : State) : Result :=
  let t := (s.writeLoc16 dst (s.pc + pcr16) s).setReg8 .d s.k
  whenAligned s.params.misaligned (s.loc16Ea dst)
    (.next ((t.setF { s.f with d := true }).autoIndex .star 2 none (loc16Auto dst)))

/-- The sum of LDIXA as an integer: IX unsigned, simm signed (R171). -/
def ixPlus (s : State) (simm : Word) : Int := (s.reg16 .ix).toNat + simm.toInt

/-- LDIXA dest, simm (R171): A reports that the sum left the range 0 to $FFFF. -/
def execLdixa (dst : Loc16) (simm : Word) (s : State) : Result :=
  let sum := ixPlus s simm
  let t := s.writeLoc16 dst (BitVec.ofInt 16 sum) s
  whenAligned s.params.misaligned (s.loc16Ea dst)
    (.next ((t.setF { s.f with a := decide (sum < 0 ∨ 0xFFFF < sum) }).autoIndex .own 2 none (loc16Auto dst)))

/-- LDSPA dest, imm (R172). -/
def execLdspa (dst : Loc16) (imm : Word) (s : State) : Result := store16 dst (s.sp + imm) s

end Sys2Proof.Machine
end

