-- ==== Sys2Proof/Machine/Alu.lean ====
section
/-! DEFINITION. The two-operand arithmetic and logic of spec/47_alu.md: eight operations in six forms (R280). -/

namespace Sys2Proof.Machine

/-- The A column: `C` for the arithmetic group and CP, `*` for the logic group (R289). -/
def AluOp.column (op : AluOp) : AColumn := if op.isLogic then .star else .own

/-- Does the operation write its destination? CP writes only flags (R288). -/
def AluOp.writes : AluOp → Bool
  | .add => true | .adc => true | .sub => true | .sbc => true
  | .and => true | .xor => true | .or => true
  | .cp => false

/-- The 8-bit forms with an accumulator as destination (R280: F1, F2). -/
def alu8 (op : AluOp) (r : Acc8) (src : Src8) (s : State) : Result :=
  let o := op.eval s.params (s.reg8 (accReg8 r)) (s.readSrc8 src) s.f.c
  let t := if op.writes then s.setReg8 (accReg8 r) o.res else s
  .next ((t.setF (op.putFlags s.f o)).autoIndex op.column 1 (src8Auto src) none)

/-- The 8-bit form with an RM destination (R280: F3). -/
def aluTo8 (op : AluOp) (dst : Loc8) (r : Acc8) (s : State) : Result :=
  let o := op.eval s.params (s.readLoc8 dst) (s.reg8 (accReg8 r)) s.f.c
  let t := if op.writes then s.writeLoc8 dst o.res s else s
  .next ((t.setF (op.putFlags s.f o)).autoIndex op.column 1 none (loc8Auto dst))

/-- The 16-bit forms with an accumulator as destination (R280: F4, F5). -/
def alu16 (op : AluOp) (r : Acc16) (src : Src16) (s : State) : Result :=
  let o := op.eval s.params (s.reg16 (accReg16 r)) (s.readSrc16 src) s.f.c
  let t := if op.writes then s.setReg16 (accReg16 r) o.res else s
  whenAligned s.params.misaligned (s.src16Ea src)
    (.next ((t.setF (op.putFlags s.f o)).autoIndex op.column 2 (src16Auto src) none))

/-- The 16-bit form with an RM destination (R280: F6). -/
def aluTo16 (op : AluOp) (dst : Loc16) (r : Acc16) (s : State) : Result :=
  let o := op.eval s.params (s.readLoc16 dst) (s.reg16 (accReg16 r)) s.f.c
  let t := if op.writes then s.writeLoc16 dst o.res s else s
  whenAligned s.params.misaligned (s.loc16Ea dst)
    (.next ((t.setF (op.putFlags s.f o)).autoIndex op.column 2 none (loc16Auto dst)))

/-- `uimm8`: zero-extended (30_encoding.md R108). -/
def uimm8 (imm : Byte) : Word := imm.zeroExtend 16

/-- `simm8`: sign-extended (30_encoding.md R108). -/
def simm8 (imm : Byte) : Word := imm.signExtend 16

/-- ADD A or B, imm (R281). -/
def execAddImm8 (r : Acc8) (imm : Byte) (s : State) : Result := alu8 .add r (.imm imm) s

/-- ADD A or B, src (R281). -/
def execAddSrc8 (r : Acc8) (src : Src8) (s : State) : Result := alu8 .add r src s

/-- ADD dest, A or B (R281). -/
def execAddDst8 (dst : Loc8) (r : Acc8) (s : State) : Result := aluTo8 .add dst r s

/-- ADD AB or HL, uimm8 (R281). -/
def execAddImm16 (r : Acc16) (imm : Byte) (s : State) : Result := alu16 .add r (.imm (uimm8 imm)) s

/-- ADD AB or HL, src (R281). -/
def execAddSrc16 (r : Acc16) (src : Src16) (s : State) : Result := alu16 .add r src s

/-- ADD dest, AB or HL (R281). -/
def execAddDst16 (dst : Loc16) (r : Acc16) (s : State) : Result := aluTo16 .add dst r s

/-- ADC A or B, imm (R282). -/
def execAdcImm8 (r : Acc8) (imm : Byte) (s : State) : Result := alu8 .adc r (.imm imm) s

/-- ADC A or B, src (R282). -/
def execAdcSrc8 (r : Acc8) (src : Src8) (s : State) : Result := alu8 .adc r src s

/-- ADC dest, A or B (R282). -/
def execAdcDst8 (dst : Loc8) (r : Acc8) (s : State) : Result := aluTo8 .adc dst r s

/-- ADC AB or HL, uimm8 (R282). -/
def execAdcImm16 (r : Acc16) (imm : Byte) (s : State) : Result := alu16 .adc r (.imm (uimm8 imm)) s

/-- ADC AB or HL, src (R282). -/
def execAdcSrc16 (r : Acc16) (src : Src16) (s : State) : Result := alu16 .adc r src s

/-- ADC dest, AB or HL (R282). -/
def execAdcDst16 (dst : Loc16) (r : Acc16) (s : State) : Result := aluTo16 .adc dst r s

/-- SUB A or B, imm (R283). -/
def execSubImm8 (r : Acc8) (imm : Byte) (s : State) : Result := alu8 .sub r (.imm imm) s

/-- SUB A or B, src (R283). -/
def execSubSrc8 (r : Acc8) (src : Src8) (s : State) : Result := alu8 .sub r src s

/-- SUB dest, A or B (R283). -/
def execSubDst8 (dst : Loc8) (r : Acc8) (s : State) : Result := aluTo8 .sub dst r s

/-- SUB AB or HL, uimm8 (R283). -/
def execSubImm16 (r : Acc16) (imm : Byte) (s : State) : Result := alu16 .sub r (.imm (uimm8 imm)) s

/-- SUB AB or HL, src (R283). -/
def execSubSrc16 (r : Acc16) (src : Src16) (s : State) : Result := alu16 .sub r src s

/-- SUB dest, AB or HL (R283). -/
def execSubDst16 (dst : Loc16) (r : Acc16) (s : State) : Result := aluTo16 .sub dst r s

/-- SBC A or B, imm (R284). -/
def execSbcImm8 (r : Acc8) (imm : Byte) (s : State) : Result := alu8 .sbc r (.imm imm) s

/-- SBC A or B, src (R284). -/
def execSbcSrc8 (r : Acc8) (src : Src8) (s : State) : Result := alu8 .sbc r src s

/-- SBC dest, A or B (R284). -/
def execSbcDst8 (dst : Loc8) (r : Acc8) (s : State) : Result := aluTo8 .sbc dst r s

/-- SBC AB or HL, uimm8 (R284). -/
def execSbcImm16 (r : Acc16) (imm : Byte) (s : State) : Result := alu16 .sbc r (.imm (uimm8 imm)) s

/-- SBC AB or HL, src (R284). -/
def execSbcSrc16 (r : Acc16) (src : Src16) (s : State) : Result := alu16 .sbc r src s

/-- SBC dest, AB or HL (R284). -/
def execSbcDst16 (dst : Loc16) (r : Acc16) (s : State) : Result := aluTo16 .sbc dst r s

/-- AND A or B, imm (R285). -/
def execAndImm8 (r : Acc8) (imm : Byte) (s : State) : Result := alu8 .and r (.imm imm) s

/-- AND A or B, src (R285). -/
def execAndSrc8 (r : Acc8) (src : Src8) (s : State) : Result := alu8 .and r src s

/-- AND dest, A or B (R285). -/
def execAndDst8 (dst : Loc8) (r : Acc8) (s : State) : Result := aluTo8 .and dst r s

/-- AND AB or HL, simm8 (R285). -/
def execAndImm16 (r : Acc16) (imm : Byte) (s : State) : Result := alu16 .and r (.imm (simm8 imm)) s

/-- AND AB or HL, src (R285). -/
def execAndSrc16 (r : Acc16) (src : Src16) (s : State) : Result := alu16 .and r src s

/-- AND dest, AB or HL (R285). -/
def execAndDst16 (dst : Loc16) (r : Acc16) (s : State) : Result := aluTo16 .and dst r s

/-- XOR A or B, imm (R286). -/
def execXorImm8 (r : Acc8) (imm : Byte) (s : State) : Result := alu8 .xor r (.imm imm) s

/-- XOR A or B, src (R286). -/
def execXorSrc8 (r : Acc8) (src : Src8) (s : State) : Result := alu8 .xor r src s

/-- XOR dest, A or B (R286). -/
def execXorDst8 (dst : Loc8) (r : Acc8) (s : State) : Result := aluTo8 .xor dst r s

/-- XOR AB or HL, simm8 (R286). -/
def execXorImm16 (r : Acc16) (imm : Byte) (s : State) : Result := alu16 .xor r (.imm (simm8 imm)) s

/-- XOR AB or HL, src (R286). -/
def execXorSrc16 (r : Acc16) (src : Src16) (s : State) : Result := alu16 .xor r src s

/-- XOR dest, AB or HL (R286). -/
def execXorDst16 (dst : Loc16) (r : Acc16) (s : State) : Result := aluTo16 .xor dst r s

/-- OR A or B, imm (R287). -/
def execOrImm8 (r : Acc8) (imm : Byte) (s : State) : Result := alu8 .or r (.imm imm) s

/-- OR A or B, src (R287). -/
def execOrSrc8 (r : Acc8) (src : Src8) (s : State) : Result := alu8 .or r src s

/-- OR dest, A or B (R287). -/
def execOrDst8 (dst : Loc8) (r : Acc8) (s : State) : Result := aluTo8 .or dst r s

/-- OR AB or HL, simm8 (R287). -/
def execOrImm16 (r : Acc16) (imm : Byte) (s : State) : Result := alu16 .or r (.imm (simm8 imm)) s

/-- OR AB or HL, src (R287). -/
def execOrSrc16 (r : Acc16) (src : Src16) (s : State) : Result := alu16 .or r src s

/-- OR dest, AB or HL (R287). -/
def execOrDst16 (dst : Loc16) (r : Acc16) (s : State) : Result := aluTo16 .or dst r s

/-- CP A or B, imm (R288). -/
def execCpImm8 (r : Acc8) (imm : Byte) (s : State) : Result := alu8 .cp r (.imm imm) s

/-- CP A or B, src (R288). -/
def execCpSrc8 (r : Acc8) (src : Src8) (s : State) : Result := alu8 .cp r src s

/-- CP dest, A or B (R288). -/
def execCpDst8 (dst : Loc8) (r : Acc8) (s : State) : Result := aluTo8 .cp dst r s

/-- CP AB or HL, simm8 (R288). -/
def execCpImm16 (r : Acc16) (imm : Byte) (s : State) : Result := alu16 .cp r (.imm (simm8 imm)) s

/-- CP AB or HL, src (R288). -/
def execCpSrc16 (r : Acc16) (src : Src16) (s : State) : Result := alu16 .cp r src s

/-- CP dest, AB or HL (R288). -/
def execCpDst16 (dst : Loc16) (r : Acc16) (s : State) : Result := aluTo16 .cp dst r s

end Sys2Proof.Machine
end

