-- ==== Sys2Proof/Machine/Load.lean ====
section
/-! DEFINITION. The loads of spec/45_load.md. Order: read the source, write the destination, auto-index the source,
auto-index the destination (R252). -/

namespace Sys2Proof.Machine

/-- LD dest, src (R240). -/
def execLd (dst : Loc8) (src : Src8) (s : State) : Result :=
  .next ((s.writeLoc8 dst (s.readSrc8 src) s).autoIndex .star 1 (src8Auto src) (loc8Auto dst))

/-- LDW dest, src (R241). -/
def execLdw (dst : Loc16) (src : Src16) (s : State) : Result :=
  whenAligned s.params.misaligned (s.src16Ea src) <| whenAligned s.params.misaligned (s.loc16Ea dst)
    (.next ((s.writeLoc16 dst (s.readSrc16 src) s).autoIndex .star 2 (src16Auto src) (loc16Auto dst)))

/-- LD r, imm (R242). -/
def execLdRegImm (r : Reg8) (imm : Byte) (s : State) : Result := .next (s.setReg8 r imm)

/-- LD dest, A or B with a ZM destination (R243). -/
def execStZm8 (dst : Zm) (r : Acc8) (s : State) : Result :=
  .next ((s.write8 (s.zmEa dst) (s.reg8 (accReg8 r))).autoIndex .star 1 none (zmAuto dst))

/-- LD A or B, src with a ZM source (R244). -/
def execLdZm8 (r : Acc8) (src : Zm) (s : State) : Result :=
  .next ((s.setReg8 (accReg8 r) (s.read8 (s.zmEa src))).autoIndex .star 1 (zmAuto src) none)

/-- LD dest, AB or HL with a ZM destination (R245). -/
def execStZm16 (dst : Zm) (r : Acc16) (s : State) : Result :=
  whenAligned s.params.misaligned (some (s.zmEa dst))
    (.next ((s.write16 (s.zmEa dst) (s.reg16 (accReg16 r))).autoIndex .star 2 none (zmAuto dst)))

/-- LD AB or HL, src with a ZM source (R246). -/
def execLdZm16 (r : Acc16) (src : Zm) (s : State) : Result :=
  whenAligned s.params.misaligned (some (s.zmEa src))
    (.next ((s.setReg16 (accReg16 r) (s.read16 (s.zmEa src))).autoIndex .star 2 (zmAuto src) none))

/-! ## From a special register or port (R247) -/

/-- LD dest, special from a port, the pointer C moving by `step`: read the port, write the destination, step C, then
the destination's auto-index (R247, R86). -/
def State.loadPort (s : State) (dst : Loc8) (step : Byte) : State :=
  let t := s.writeLoc8 dst s.portIn s.portRead
  (t.setC (t.regs.c + step)).autoIndex .star 1 none (loc8Auto dst)

/-- LD dest, [C+] (R247). -/
def execLdFromPortInc (dst : Loc8) (s : State) : Result := .next (s.loadPort dst 1)

/-- LD dest, F (R247). -/
def execLdFromF (dst : Loc8) (s : State) : Result := .next (s.store8 dst s.f.toByte)

/-- LD dest, [C] (R247). -/
def execLdFromPort (dst : Loc8) (s : State) : Result := .next (s.loadPort dst 0)

/-- LD dest, C (R247). -/
def execLdFromC (dst : Loc8) (s : State) : Result := .next (s.store8 dst s.regs.c)

/-- LD dest, [C-] (R247). -/
def execLdFromPortDec (dst : Loc8) (s : State) : Result := .next (s.loadPort dst (-1))

/-- LD dest, E (R247). -/
def execLdFromE (dst : Loc8) (s : State) : Result := .next (s.store8 dst s.e)

/-! ## To a special register or port (R248, R249) -/

/-- LD special, src to a port: write the port, the source's auto-index, then step C (R248, R86). -/
def State.storePort (s : State) (src : Src8) (step : Byte) : State :=
  let t := (s.portWrite (s.readSrc8 src)).autoIndex .star 1 (src8Auto src) none
  t.setC (t.regs.c + step)

/-- LD [C+], src (R248). -/
def execLdPortInc (src : Src8) (s : State) : Result := .next (s.storePort src 1)

/-- LD F, src (R249): F is written whole, so a "DS:" auto-index leaves A unspecified (20_memory.md R83). -/
def execLdF (src : Src8) (s : State) : Result :=
  .next ((s.setF (Flags.ofByte (s.readSrc8 src))).autoIndex .own 1 (src8Auto src) none)

/-- LD [C], src (R248). -/
def execLdPort (src : Src8) (s : State) : Result := .next (s.storePort src 0)

/-- LD C, src (R248). -/
def execLdC (src : Src8) (s : State) : Result :=
  .next ((s.setC (s.readSrc8 src)).autoIndex .star 1 (src8Auto src) none)

/-- LD [C-], src (R248). -/
def execLdPortDec (src : Src8) (s : State) : Result := .next (s.storePort src (-1))

/-- LD E, src (R248). -/
def execLdE (src : Src8) (s : State) : Result :=
  .next ((s.setE (s.readSrc8 src)).autoIndex .star 1 (src8Auto src) none)

/-- LD C, imm (R250). -/
def execLdCImm (imm : Byte) (s : State) : Result := .next (s.setC imm)

/-- ADD C, imm (R251): no flag is written. -/
def execAddCImm (imm : Byte) (s : State) : Result := .next (s.setC (s.regs.c + imm))

end Sys2Proof.Machine
end

