-- ==== Sys2Proof/Machine/MulDiv.lean ====
section
/-! DEFINITION. The multiplications and divisions of spec/42_muldiv.md. -/

namespace Sys2Proof.Machine

/-- MULU src (R180). -/
def execMulu (src : Src8) (s : State) : Result :=
  let p : Word := BitVec.ofNat 16 (s.regs.a.toNat * (s.readSrc8 src).toNat)
  .next (((s.setReg16 .ab p).setF { s.f with s := topBit p, z := p == 0, v := false }).autoIndex .star 1
    (src8Auto src) none)

/-- ABHL as a signed integer (10_state.md R22). -/
def State.abhl (s : State) : Int := (s.reg16 .ab ++ s.reg16 .hl).toInt

/-- Write ABHL, AB in bits 31:16 (10_state.md R22). -/
def State.setAbhl (s : State) (v : BitVec 32) : State :=
  (s.setReg16 .ab (v.extractLsb' 16 16)).setReg16 .hl (v.extractLsb' 0 16)

/-- MULSW src (R181). -/
def execMulsw (src : Src16) (s : State) : Result :=
  let p : Int := (s.reg16 .ab).toInt * (s.readSrc16 src).toInt
  let t := (s.setAbhl (BitVec.ofInt 32 p)).setF { s.f with s := decide (p < 0), z := decide (p = 0), v := false }
  whenAligned s.params.misaligned (s.src16Ea src) (.next (t.autoIndex .star 2 (src16Auto src) none))

/-- `F.Z <- 1 ; F.S <- unspecified(1) ; F.V <- unspecified(1)`, the registers unchanged (R182, R183). -/
def State.dividedByZero (s : State) : State :=
  s.drawn.drawn.setF { s.f with z := true, s := s.freeBit, v := s.drawn.freeBit }

/-- DIVU after its source is read (R182). -/
def State.divideU (s : State) (d : Byte) : State :=
  let n := (s.reg16 .ab).toNat
  if d = 0 then s.dividedByZero
  else
    let q := n / d.toNat
    let r := n % d.toNat
    if 0xFF < q then
      (s.drawn.drawn.setReg16 .ab s.free).setF { s.f with z := false, v := true, s := s.drawn.freeBit }
    else
      ((s.setReg8 .a (BitVec.ofNat 8 r)).setReg8 .b (BitVec.ofNat 8 q)).setF
        { s.f with z := false, v := false, s := topBit (BitVec.ofNat 8 q) }

/-- DIVU src (R182). -/
def execDivu (src : Src8) (s : State) : Result :=
  .next ((s.divideU (s.readSrc8 src)).autoIndex .star 1 (src8Auto src) none)

/-- The quotient of DIVSW, rounded as `DIVS_ROUNDING` says (R183; log 17). -/
def State.signedQuotient (s : State) (n d : Int) : Int := s.params.divsRounding.quotient n d

/-- DIVSW after its source is read (R183). -/
def State.divideS (s : State) (w : Word) : State :=
  let n := s.abhl
  let d := w.toInt
  if w = 0 then s.dividedByZero
  else
    let q := s.signedQuotient n d
    let r := n - q * d
    if q < -32768 ∨ 32767 < q then
      ((s.drawn.drawn.drawn.setReg16 .ab s.free).setReg16 .hl s.drawn.free).setF
        { s.f with z := false, v := true, s := s.drawn.drawn.freeBit }
    else
      ((s.setReg16 .hl (BitVec.ofInt 16 q)).setReg16 .ab (BitVec.ofInt 16 r)).setF
        { s.f with z := false, v := false, s := decide (q < 0) }

/-- DIVSW src (R183). -/
def execDivsw (src : Src16) (s : State) : Result :=
  whenAligned s.params.misaligned (s.src16Ea src)
    (.next ((s.divideS (s.readSrc16 src)).autoIndex .star 2 (src16Auto src) none))

end Sys2Proof.Machine
end

