-- ==== Sys2Proof/Machine/Shift.lean ====
section
/-! DEFINITION. The shifts, rotates, SWAP and bit operations of spec/44_shift_bit.md. Where the V column is `?` the
meaning draws a free value for V (R210). -/

namespace Sys2Proof.Machine

/-- RLC dest (R211). -/
def execRlc (dst : Loc8) (s : State) : Result := .next (s.drawn.modify8 .own dst (rlcOp s.freeBit))

/-- RRC dest (R212). -/
def execRrc (dst : Loc8) (s : State) : Result := .next (s.drawn.modify8 .own dst (rrcOp s.freeBit))

/-- RL dest (R213). -/
def execRl (dst : Loc8) (s : State) : Result := .next (s.drawn.modify8 .own dst (rlOp s.freeBit))

/-- RR dest (R214). -/
def execRr (dst : Loc8) (s : State) : Result := .next (s.drawn.modify8 .own dst (rrOp s.freeBit))

/-- SLA dest (R215). -/
def execSla (dst : Loc8) (s : State) : Result := .next (s.modify8 .own dst slaOp)

/-- SRA dest (R216). -/
def execSra (dst : Loc8) (s : State) : Result := .next (s.modify8 .own dst sraOp)

/-- SWAP dest (R217). -/
def execSwap (dst : Loc8) (s : State) : Result := .next (s.modify8 .star dst swapOp)

/-- SRL dest (R218). -/
def execSrl (dst : Loc8) (s : State) : Result := .next (s.drawn.modify8 .own dst (srlOp s.freeBit))

/-- RLCW dest (R223). -/
def execRlcw (dst : Loc16) (s : State) : Result := modify16 .own dst (rlcOp s.freeBit) s.drawn

/-- RRCW dest (R224). -/
def execRrcw (dst : Loc16) (s : State) : Result := modify16 .own dst (rrcOp s.freeBit) s.drawn

/-- RLW dest (R225). -/
def execRlw (dst : Loc16) (s : State) : Result := modify16 .own dst (rlOp s.freeBit) s.drawn

/-- RRW dest (R226). -/
def execRrw (dst : Loc16) (s : State) : Result := modify16 .own dst (rrOp s.freeBit) s.drawn

/-- SLAW dest (R227). -/
def execSlaw (dst : Loc16) (s : State) : Result := modify16 .own dst slaOp s

/-- SRAW dest (R228). -/
def execSraw (dst : Loc16) (s : State) : Result := modify16 .own dst sraOp s

/-- SWAPW dest (R229). -/
def execSwapw (dst : Loc16) (s : State) : Result := modify16 .star dst swapOp s

/-- SRLW dest (R230). -/
def execSrlw (dst : Loc16) (s : State) : Result := modify16 .own dst (srlOp s.freeBit) s.drawn

/-! ## BIT, RES, SET (R219 to R222) -/

/-- BIT of an rm8 source: only Z, and the source's auto-index (R220). -/
def State.testBit (s : State) (b : BitVec 3) (src : Src8) : State :=
  (s.setF (s.f.putBit b (s.readSrc8 src))).autoIndex .star 1 (src8Auto src) none

/-- RES or SET of an rm8 destination (R221, R222). -/
def State.changeBit (s : State) (op : BitOp) (b : BitVec 3) (dst : Loc8) : State :=
  s.modify8 .star dst fun x f => (op.result b x, f.putBit b x)

/-- BIT of the port `[C]`: one read (R219, R220). -/
def State.testPort (s : State) (b : BitVec 3) : State :=
  s.portRead.setF (s.f.putBit b s.portIn)

/-- RES or SET of the port `[C]`: one read, then one write (R219, R221, R222). -/
def State.changePort (s : State) (op : BitOp) (b : BitVec 3) : State :=
  (s.testPort b).portWrite (op.result b s.portIn)

/-- The bit number in an accumulator: its low three bits (R219). -/
def State.bitNumber (s : State) (r : Acc8) : BitVec 3 := (s.reg8 (accReg8 r)).extractLsb' 0 3

/-- BIT bit, [C] (R220). -/
def execBitImmPort (bit : BitVec 3) (s : State) : Result := .next (s.testPort bit)

/-- RES bit, [C] (R221). -/
def execResImmPort (bit : BitVec 3) (s : State) : Result := .next (s.changePort .res bit)

/-- SET bit, [C] (R222). -/
def execSetImmPort (bit : BitVec 3) (s : State) : Result := .next (s.changePort .set bit)

/-- BIT bit, rm8 (R220). -/
def execBitImm (bit : BitVec 3) (src : Src8) (s : State) : Result := .next (s.testBit bit src)

/-- RES bit, rm8 (R221). -/
def execResImm (bit : BitVec 3) (dst : Loc8) (s : State) : Result := .next (s.changeBit .res bit dst)

/-- SET bit, rm8 (R222). -/
def execSetImm (bit : BitVec 3) (dst : Loc8) (s : State) : Result := .next (s.changeBit .set bit dst)

/-- BIT A or B, [C] (R220). -/
def execBitAccPort (r : Acc8) (s : State) : Result := .next (s.testPort (s.bitNumber r))

/-- RES A or B, [C] (R221). -/
def execResAccPort (r : Acc8) (s : State) : Result := .next (s.changePort .res (s.bitNumber r))

/-- SET A or B, [C] (R222). -/
def execSetAccPort (r : Acc8) (s : State) : Result := .next (s.changePort .set (s.bitNumber r))

/-- BIT A or B, rm8 (R220). -/
def execBitAcc (r : Acc8) (src : Src8) (s : State) : Result := .next (s.testBit (s.bitNumber r) src)

/-- RES A or B, rm8 (R221). -/
def execResAcc (r : Acc8) (dst : Loc8) (s : State) : Result := .next (s.changeBit .res (s.bitNumber r) dst)

/-- SET A or B, rm8 (R222). -/
def execSetAcc (r : Acc8) (dst : Loc8) (s : State) : Result := .next (s.changeBit .set (s.bitNumber r) dst)

end Sys2Proof.Machine
end

