-- ==== Sys2Proof/Machine/Stack.lean ====
section
/-! DEFINITION. The stack instructions of spec/46_stack.md. -/

namespace Sys2Proof.Machine

/-- PUSH src (R260): the source is read with the old SP. -/
def execPush (src : Src16) (s : State) : Result :=
  whenAligned s.params.misaligned (s.src16Ea src)
    (.next ((s.push16 (s.readSrc16 src)).autoIndex .star 2 (src16Auto src) none))

/-- PUSH KF (R261). -/
def execPushKF (s : State) : Result := .next (s.push16 s.kf)

/-- `push16(AB) ; push16(HL) ; push16(IX) ; push16(DS)` of a register set (R262, R263). -/
def State.pushPairs (s : State) (r : Regs) : State :=
  (((s.push16 (r.pairAt .ab)).push16 (r.pairAt .hl)).push16 (r.pairAt .ix)).push16 (r.pairAt .ds)

/-- PUSH GPR (R262). -/
def execPushGpr (s : State) : Result := .next ((s.push16 (pair 0 s.regs.c)).pushPairs s.regs)

/-- PUSH ALL (R263): bit 5 of the pushed F' byte is unspecified. -/
def execPushAll (s : State) : Result :=
  let ff := pair (s.fShadow.toByte s.freeBit) s.f.toByte
  .next ((((s.drawn.push16 ff).push16 (pair s.shadow.c s.regs.c)).pushPairs s.shadow).pushPairs s.regs)

/-- POP dest (R264): the destination is resolved with the old SP. -/
def execPop (dst : Loc16) (s : State) : Result :=
  whenAligned s.params.misaligned (s.loc16Ea dst)
    (.next ((s.writeLoc16 dst s.top16 s.popped).autoIndex .star 2 none (loc16Auto dst)))

/-- POP F (R265): the low byte of the popped word; K is unchanged. -/
def execPopF (s : State) : Result := .next (s.popped.setF (Flags.ofByte (loByte s.top16)))

/-- Pop into a pair of the main set. -/
def State.popPair (s : State) (r : Reg16) : State := s.popped.setReg16 r s.top16

/-- `DS <- pop16() ; IX <- pop16() ; HL <- pop16() ; AB <- pop16()` (R266, R267). -/
def State.popPairs (s : State) : State := (((s.popPair .ds).popPair .ix).popPair .hl).popPair .ab

/-- The same four pops into the shadow set (R267). -/
def State.popShadowPairs (s : State) : State :=
  { s.popPairs with regs := s.regs, shadow := { s.popPairs.regs with c := s.shadow.c } }

/-- POP GPR (R266): the high byte of the C word is discarded. -/
def execPopGpr (s : State) : Result :=
  let t := s.popPairs
  .next (t.popped.setC (loByte t.top16))

/-- POP ALL (R267): all of F is loaded; bit 5 of the F' byte is ignored. -/
def execPopAll (s : State) : Result :=
  let t := s.popPairs.popShadowPairs
  let u := { t.popped with
    shadow := { t.shadow with c := hiByte t.top16 }
    regs := { t.regs with c := loByte t.top16 } }
  .next { u.popped with
    fShadow := ShadowFlags.ofByte (hiByte u.top16)
    f := Flags.ofByte (loByte u.top16) }

end Sys2Proof.Machine
end

