-- ==== Sys2Proof/Machine/Stores.lean ====
section
/-! DEFINITION. Which bytes of memory an instruction stores to, and which instructions REPI may repeat. -/

namespace Sys2Proof.Machine

/-- The bytes an instruction executed in `s` stores to, when it completes: its destination, the words it pushes, the Z
register it steps (20_memory.md R80, R84, R85). For REPI itself the list is empty: its target's stores are the
target's. -/
def State.stores (s : State) : Instr → List Addr
  | .nop => []
  | .exs _ => []
  | .djnz8 _ _ => []
  | .djnz16 _ _ => []
  | .halt => []
  | .stop => []
  | .ccf => []
  | .sds => []
  | .daa => []
  | .sao => []
  | .das => []
  | .sau => []
  | .repiReg _ => []
  | .repiImm _ => []
  | .ldpca o _ => s.loc16Bytes o
  | .ldixa o _ => s.loc16Bytes o
  | .ldspa o _ => s.loc16Bytes o
  | .ldFromPortInc o => s.loc8Bytes o
  | .ldFromF o => s.loc8Bytes o
  | .ldFromPort o => s.loc8Bytes o
  | .ldFromC o => s.loc8Bytes o
  | .ldFromPortDec o => s.loc8Bytes o
  | .ldFromE o => s.loc8Bytes o
  | .mulu _ => []
  | .mulsw _ => []
  | .divu _ => []
  | .divsw _ => []
  | .ldPortInc _ => []
  | .ldF _ => []
  | .ldPort _ => []
  | .ldC _ => []
  | .ldPortDec _ => []
  | .ldE _ => []
  | .resf _ => []
  | .di _ => []
  | .setf _ => []
  | .ei _ => []
  | .inc _ o => s.loc8Bytes o
  | .dec _ o => s.loc8Bytes o
  | .neg o => s.loc8Bytes o
  | .cpl o => s.loc8Bytes o
  | .ngc o => s.loc8Bytes o
  | .clr o => s.loc8Bytes o
  | .incw _ o => s.loc16Bytes o
  | .decw _ o => s.loc16Bytes o
  | .negw o => s.loc16Bytes o
  | .cplw o => s.loc16Bytes o
  | .ngcw o => s.loc16Bytes o
  | .clrw o => s.loc16Bytes o
  | .rlc o => s.loc8Bytes o
  | .rrc o => s.loc8Bytes o
  | .rl o => s.loc8Bytes o
  | .rr o => s.loc8Bytes o
  | .sla o => s.loc8Bytes o
  | .sra o => s.loc8Bytes o
  | .swap o => s.loc8Bytes o
  | .srl o => s.loc8Bytes o
  | .rlcw o => s.loc16Bytes o
  | .rrcw o => s.loc16Bytes o
  | .rlw o => s.loc16Bytes o
  | .rrw o => s.loc16Bytes o
  | .slaw o => s.loc16Bytes o
  | .sraw o => s.loc16Bytes o
  | .swapw o => s.loc16Bytes o
  | .srlw o => s.loc16Bytes o
  | .bitImmPort _ => []
  | .resImmPort _ => []
  | .setImmPort _ => []
  | .bitImm _ _ => []
  | .resImm _ o => s.loc8Bytes o
  | .setImm _ o => s.loc8Bytes o
  | .bitAccPort _ => []
  | .resAccPort _ => []
  | .setAccPort _ => []
  | .bitAcc _ _ => []
  | .resAcc _ o => s.loc8Bytes o
  | .setAcc _ o => s.loc8Bytes o
  | .ldCImm _ => []
  | .addCImm _ => []
  | .popF => []
  | .popGpr => []
  | .popAll => []
  | .pop o => s.loc16Bytes o
  | .pushKF => s.pushArea 1
  | .pushGpr => s.pushArea 5
  | .pushAll => s.pushArea 10
  | .push _ => s.pushArea 1
  | .stZm8 o _ => (s.zmEa o).bytes8 ++ autoBytes (zmAuto o)
  | .ldZm8 _ o => autoBytes (zmAuto o)
  | .stZm16 o _ => (s.zmEa o).bytes16 ++ autoBytes (zmAuto o)
  | .ldZm16 _ o => autoBytes (zmAuto o)
  | .ld o _ => s.loc8Bytes o
  | .ldw o _ => s.loc16Bytes o
  | .ldRegImm _ _ => []
  | .addImm8 _ _ => []
  | .addSrc8 _ _ => []
  | .addDst8 o _ => s.loc8Bytes o
  | .addImm16 _ _ => []
  | .addSrc16 _ _ => []
  | .addDst16 o _ => s.loc16Bytes o
  | .adcImm8 _ _ => []
  | .adcSrc8 _ _ => []
  | .adcDst8 o _ => s.loc8Bytes o
  | .adcImm16 _ _ => []
  | .adcSrc16 _ _ => []
  | .adcDst16 o _ => s.loc16Bytes o
  | .subImm8 _ _ => []
  | .subSrc8 _ _ => []
  | .subDst8 o _ => s.loc8Bytes o
  | .subImm16 _ _ => []
  | .subSrc16 _ _ => []
  | .subDst16 o _ => s.loc16Bytes o
  | .sbcImm8 _ _ => []
  | .sbcSrc8 _ _ => []
  | .sbcDst8 o _ => s.loc8Bytes o
  | .sbcImm16 _ _ => []
  | .sbcSrc16 _ _ => []
  | .sbcDst16 o _ => s.loc16Bytes o
  | .andImm8 _ _ => []
  | .andSrc8 _ _ => []
  | .andDst8 o _ => s.loc8Bytes o
  | .andImm16 _ _ => []
  | .andSrc16 _ _ => []
  | .andDst16 o _ => s.loc16Bytes o
  | .xorImm8 _ _ => []
  | .xorSrc8 _ _ => []
  | .xorDst8 o _ => s.loc8Bytes o
  | .xorImm16 _ _ => []
  | .xorSrc16 _ _ => []
  | .xorDst16 o _ => s.loc16Bytes o
  | .orImm8 _ _ => []
  | .orSrc8 _ _ => []
  | .orDst8 o _ => s.loc8Bytes o
  | .orImm16 _ _ => []
  | .orSrc16 _ _ => []
  | .orDst16 o _ => s.loc16Bytes o
  | .cpImm8 _ _ => []
  | .cpSrc8 _ _ => []
  | .cpDst8 _ _ => []
  | .cpImm16 _ _ => []
  | .cpSrc16 _ _ => []
  | .cpDst16 _ _ => []
  | .callr _ => s.pushArea 1
  | .call _ => s.pushArea 1
  | .calld _ => s.pushArea 2
  | .callfMem _ => s.pushArea 2
  | .callrl _ => s.pushArea 1
  | .callfAbs _ _ => s.pushArea 2
  | .rst _ => s.pushArea 2
  | .reti _ => []
  | .jr _ _ => []
  | .jp _ _ => []
  | .jpd _ _ => []
  | .jpfMem _ _ => []
  | .jrl _ _ => []
  | .jpfAbs _ _ _ => []
  | .ret _ => []
  | .retf _ => []

/-- REPI may repeat the instruction: not a multiplication, a division, anything of 48_control.md, REPI, HALT or STOP
(40_misc_system.md R152). -/
def repeatable : Instr → Bool
  | .nop => true
  | .exs _ => true
  | .djnz8 _ _ => false
  | .djnz16 _ _ => false
  | .halt => false
  | .stop => false
  | .ccf => true
  | .sds => true
  | .daa => true
  | .sao => true
  | .das => true
  | .sau => true
  | .repiReg _ => false
  | .repiImm _ => false
  | .ldpca _ _ => true
  | .ldixa _ _ => true
  | .ldspa _ _ => true
  | .ldFromPortInc _ => true
  | .ldFromF _ => true
  | .ldFromPort _ => true
  | .ldFromC _ => true
  | .ldFromPortDec _ => true
  | .ldFromE _ => true
  | .mulu _ => false
  | .mulsw _ => false
  | .divu _ => false
  | .divsw _ => false
  | .ldPortInc _ => true
  | .ldF _ => true
  | .ldPort _ => true
  | .ldC _ => true
  | .ldPortDec _ => true
  | .ldE _ => true
  | .resf _ => true
  | .di _ => true
  | .setf _ => true
  | .ei _ => true
  | .inc _ _ => true
  | .dec _ _ => true
  | .neg _ => true
  | .cpl _ => true
  | .ngc _ => true
  | .clr _ => true
  | .incw _ _ => true
  | .decw _ _ => true
  | .negw _ => true
  | .cplw _ => true
  | .ngcw _ => true
  | .clrw _ => true
  | .rlc _ => true
  | .rrc _ => true
  | .rl _ => true
  | .rr _ => true
  | .sla _ => true
  | .sra _ => true
  | .swap _ => true
  | .srl _ => true
  | .rlcw _ => true
  | .rrcw _ => true
  | .rlw _ => true
  | .rrw _ => true
  | .slaw _ => true
  | .sraw _ => true
  | .swapw _ => true
  | .srlw _ => true
  | .bitImmPort _ => true
  | .resImmPort _ => true
  | .setImmPort _ => true
  | .bitImm _ _ => true
  | .resImm _ _ => true
  | .setImm _ _ => true
  | .bitAccPort _ => true
  | .resAccPort _ => true
  | .setAccPort _ => true
  | .bitAcc _ _ => true
  | .resAcc _ _ => true
  | .setAcc _ _ => true
  | .ldCImm _ => true
  | .addCImm _ => true
  | .popF => true
  | .popGpr => true
  | .popAll => true
  | .pop _ => true
  | .pushKF => true
  | .pushGpr => true
  | .pushAll => true
  | .push _ => true
  | .stZm8 _ _ => true
  | .ldZm8 _ _ => true
  | .stZm16 _ _ => true
  | .ldZm16 _ _ => true
  | .ld _ _ => true
  | .ldw _ _ => true
  | .ldRegImm _ _ => true
  | .addImm8 _ _ => true
  | .addSrc8 _ _ => true
  | .addDst8 _ _ => true
  | .addImm16 _ _ => true
  | .addSrc16 _ _ => true
  | .addDst16 _ _ => true
  | .adcImm8 _ _ => true
  | .adcSrc8 _ _ => true
  | .adcDst8 _ _ => true
  | .adcImm16 _ _ => true
  | .adcSrc16 _ _ => true
  | .adcDst16 _ _ => true
  | .subImm8 _ _ => true
  | .subSrc8 _ _ => true
  | .subDst8 _ _ => true
  | .subImm16 _ _ => true
  | .subSrc16 _ _ => true
  | .subDst16 _ _ => true
  | .sbcImm8 _ _ => true
  | .sbcSrc8 _ _ => true
  | .sbcDst8 _ _ => true
  | .sbcImm16 _ _ => true
  | .sbcSrc16 _ _ => true
  | .sbcDst16 _ _ => true
  | .andImm8 _ _ => true
  | .andSrc8 _ _ => true
  | .andDst8 _ _ => true
  | .andImm16 _ _ => true
  | .andSrc16 _ _ => true
  | .andDst16 _ _ => true
  | .xorImm8 _ _ => true
  | .xorSrc8 _ _ => true
  | .xorDst8 _ _ => true
  | .xorImm16 _ _ => true
  | .xorSrc16 _ _ => true
  | .xorDst16 _ _ => true
  | .orImm8 _ _ => true
  | .orSrc8 _ _ => true
  | .orDst8 _ _ => true
  | .orImm16 _ _ => true
  | .orSrc16 _ _ => true
  | .orDst16 _ _ => true
  | .cpImm8 _ _ => true
  | .cpSrc8 _ _ => true
  | .cpDst8 _ _ => true
  | .cpImm16 _ _ => true
  | .cpSrc16 _ _ => true
  | .cpDst16 _ _ => true
  | .callr _ => false
  | .call _ => false
  | .calld _ => false
  | .callfMem _ => false
  | .callrl _ => false
  | .callfAbs _ _ => false
  | .rst _ => false
  | .reti _ => false
  | .jr _ _ => false
  | .jp _ _ => false
  | .jpd _ _ => false
  | .jpfMem _ _ => false
  | .jrl _ _ => false
  | .jpfAbs _ _ _ => false
  | .ret _ => false
  | .retf _ => false

end Sys2Proof.Machine
end

