-- ==== Sys2Proof/Machine/System.lean ====
section
/-! DEFINITION. The miscellaneous and system instructions of spec/40_misc_system.md but REPI (Repi.lean), with the
conventions of `exec`: PC already holds PCnext (log 13). -/

namespace Sys2Proof.Machine

/-- NOP (R140). -/
def execNop (s : State) : Result := .next s

/-- The main set after exchanging the listed registers with the shadows `other` (R141). -/
def exchanged (list : RegList) (main other : Regs) : Regs where
  a := if list.a then other.a else main.a
  b := if list.b then other.b else main.b
  h := if list.h then other.h else main.h
  l := if list.l then other.l else main.l
  i := if list.i then other.i else main.i
  x := if list.x then other.x else main.x
  d := if list.d then other.d else main.d
  s := if list.s then other.s else main.s
  c := if list.c then other.c else main.c

/-- EXS reglist (R141). -/
def execExs (list : RegList) (s : State) : Result :=
  .next { s with
    regs := exchanged list s.regs s.shadow
    shadow := exchanged list s.shadow s.regs
    f := if list.f then s.f.withShadow s.fShadow else s.f
    fShadow := if list.f then s.f.toShadow else s.fShadow }

/-- HALT (R142): suspended until an interrupt is accepted. -/
def execHalt (s : State) : Result := .next { s with run := .halted }

/-- STOP (R143): suspended until `wakeup`. -/
def execStop (s : State) : Result := .next { s with run := .stopped }

/-- CCF (R144). -/
def execCcf (s : State) : Result := .next (s.setF { s.f with c := !s.f.c })

/-- SDS (R145). -/
def execSds (s : State) : Result := .next ((s.setReg8 .d s.k).setF { s.f with d := true })

/-- Write A and the flags Z and C of a decimal adjustment (R146, R147). -/
def State.adjusted (s : State) (r : Byte × Bool) : State :=
  (s.setReg8 .a r.1).setF { s.f with z := r.1 == 0, c := r.2 }

/-- DAA (R146). -/
def execDaa (s : State) : Result := .next (s.adjusted (calculateDaa s.params s.regs.a s.f.h s.f.c))

/-- DAS (R147). -/
def execDas (s : State) : Result := .next (s.adjusted (calculateDas s.params s.regs.a s.f.h s.f.c))

/-- SAO (R148). -/
def execSao (s : State) : Result := .next (if s.f.a then s.setReg8 .d (s.regs.d + 1) else s)

/-- SAU (R149). -/
def execSau (s : State) : Result := .next (if s.f.a then s.setReg8 .d (s.regs.d - 1) else s)

/-- RESF imm (R153). -/
def execResf (mask : Byte) (s : State) : Result := .next (s.setF (Flags.ofByte (s.f.toByte &&& ~~~mask)))

/-- SETF imm (R154). -/
def execSetf (mask : Byte) (s : State) : Result := .next (s.setF (Flags.ofByte (s.f.toByte ||| mask)))

/-- DI imm (R155). -/
def execDi (mask : Byte) (s : State) : Result := .next (s.setE (s.e &&& ~~~mask))

/-- EI imm (R156). -/
def execEi (mask : Byte) (s : State) : Result := .next (s.setE (s.e ||| mask))

end Sys2Proof.Machine
end

