-- ==== Sys2Proof/Machine/Unary.lean ====
section
/-! DEFINITION. The single-operand arithmetic of spec/43_unary.md. -/

namespace Sys2Proof.Machine

/-- INC dest, n (R191). -/
def execInc (field : BitVec 3) (dst : Loc8) (s : State) : Result := .next (s.modify8 .star dst (incOp s.params field))

/-- DEC dest, n (R192). -/
def execDec (field : BitVec 3) (dst : Loc8) (s : State) : Result := .next (s.modify8 .star dst (decOp s.params field))

/-- NEG dest (R195). -/
def execNeg (dst : Loc8) (s : State) : Result := .next (s.modify8 .own dst (negOp s.params))

/-- CPL dest (R197). -/
def execCpl (dst : Loc8) (s : State) : Result := .next (s.modify8 .star dst (cplOp s.params))

/-- NGC dest (R199). -/
def execNgc (dst : Loc8) (s : State) : Result := .next (s.modify8 .own dst (ngcOp s.params))

/-- CLR dest (R201): the destination is not read. -/
def execClr (dst : Loc8) (s : State) : Result := .next (s.store8 dst 0)

/-- INCW dest, n (R193): a register takes the row of "INC r16", a memory word the row of "INC". -/
def execIncw (field : BitVec 3) (dst : Loc16) (s : State) : Result :=
  match dst with
  | .reg r => modify16 .own (.reg r) (incRegOp field) s
  | .mem m => modify16 .star (.mem m) (incOp s.params field) s

/-- DECW dest, n (R194). -/
def execDecw (field : BitVec 3) (dst : Loc16) (s : State) : Result :=
  match dst with
  | .reg r => modify16 .own (.reg r) (decRegOp field) s
  | .mem m => modify16 .star (.mem m) (decOp s.params field) s

/-- NEGW dest (R196). -/
def execNegw (dst : Loc16) (s : State) : Result := modify16 .own dst (negOp s.params) s

/-- CPLW dest (R198). -/
def execCplw (dst : Loc16) (s : State) : Result := modify16 .star dst (cplOp s.params) s

/-- NGCW dest (R200). -/
def execNgcw (dst : Loc16) (s : State) : Result := modify16 .own dst (ngcOp s.params) s

/-- CLRW dest (R202). -/
def execClrw (dst : Loc16) (s : State) : Result := store16 dst 0 s

end Sys2Proof.Machine
end

