-- ==== Sys2Proof/Machine/Repi.lean ====
section
/-! DEFINITION. REPI r and REPI imm (spec/40_misc_system.md R150 to R152). The target is executed by `execTarget`, which
is `exec` on the instructions REPI may repeat (Laws/Repi.lean proves it). -/

namespace Sys2Proof.Machine

/-- Execute an instruction as the target of REPI, PC holding its PCnext; a forbidden target stops (R152). -/
def execTarget (i : Instr) (s : State) : Result :=
  match i with
  | .nop => execNop s
  | .exs list => execExs list s
  | .djnz8 _ _ => .fault .repiTarget
  | .djnz16 _ _ => .fault .repiTarget
  | .halt => .fault .repiTarget
  | .stop => .fault .repiTarget
  | .ccf => execCcf s
  | .sds => execSds s
  | .daa => execDaa s
  | .sao => execSao s
  | .das => execDas s
  | .sau => execSau s
  | .repiReg _ => .fault .repiTarget
  | .repiImm _ => .fault .repiTarget
  | .ldpca dst pcr16 => execLdpca dst pcr16 s
  | .ldixa dst simm => execLdixa dst simm s
  | .ldspa dst imm => execLdspa dst imm s
  | .ldFromPortInc dst => execLdFromPortInc dst s
  | .ldFromF dst => execLdFromF dst s
  | .ldFromPort dst => execLdFromPort dst s
  | .ldFromC dst => execLdFromC dst s
  | .ldFromPortDec dst => execLdFromPortDec dst s
  | .ldFromE dst => execLdFromE dst s
  | .mulu _ => .fault .repiTarget
  | .mulsw _ => .fault .repiTarget
  | .divu _ => .fault .repiTarget
  | .divsw _ => .fault .repiTarget
  | .ldPortInc src => execLdPortInc src s
  | .ldF src => execLdF src s
  | .ldPort src => execLdPort src s
  | .ldC src => execLdC src s
  | .ldPortDec src => execLdPortDec src s
  | .ldE src => execLdE src s
  | .resf mask => execResf mask s
  | .di mask => execDi mask s
  | .setf mask => execSetf mask s
  | .ei mask => execEi mask s
  | .inc field dst => execInc field dst s
  | .dec field dst => execDec field dst s
  | .neg dst => execNeg dst s
  | .cpl dst => execCpl dst s
  | .ngc dst => execNgc dst s
  | .clr dst => execClr dst s
  | .incw field dst => execIncw field dst s
  | .decw field dst => execDecw field dst s
  | .negw dst => execNegw dst s
  | .cplw dst => execCplw dst s
  | .ngcw dst => execNgcw dst s
  | .clrw dst => execClrw dst s
  | .rlc dst => execRlc dst s
  | .rrc dst => execRrc dst s
  | .rl dst => execRl dst s
  | .rr dst => execRr dst s
  | .sla dst => execSla dst s
  | .sra dst => execSra dst s
  | .swap dst => execSwap dst s
  | .srl dst => execSrl dst s
  | .rlcw dst => execRlcw dst s
  | .rrcw dst => execRrcw dst s
  | .rlw dst => execRlw dst s
  | .rrw dst => execRrw dst s
  | .slaw dst => execSlaw dst s
  | .sraw dst => execSraw dst s
  | .swapw dst => execSwapw dst s
  | .srlw dst => execSrlw dst s
  | .bitImmPort bit => execBitImmPort bit s
  | .resImmPort bit => execResImmPort bit s
  | .setImmPort bit => execSetImmPort bit s
  | .bitImm bit src => execBitImm bit src s
  | .resImm bit dst => execResImm bit dst s
  | .setImm bit dst => execSetImm bit dst s
  | .bitAccPort r => execBitAccPort r s
  | .resAccPort r => execResAccPort r s
  | .setAccPort r => execSetAccPort r s
  | .bitAcc r src => execBitAcc r src s
  | .resAcc r dst => execResAcc r dst s
  | .setAcc r dst => execSetAcc r dst s
  | .ldCImm imm => execLdCImm imm s
  | .addCImm imm => execAddCImm imm s
  | .popF => execPopF s
  | .popGpr => execPopGpr s
  | .popAll => execPopAll s
  | .pop dst => execPop dst s
  | .pushKF => execPushKF s
  | .pushGpr => execPushGpr s
  | .pushAll => execPushAll s
  | .push src => execPush src s
  | .stZm8 dst r => execStZm8 dst r s
  | .ldZm8 r src => execLdZm8 r src s
  | .stZm16 dst r => execStZm16 dst r s
  | .ldZm16 r src => execLdZm16 r src s
  | .ld dst src => execLd dst src s
  | .ldw dst src => execLdw dst src s
  | .ldRegImm r imm => execLdRegImm r imm s
  | .addImm8 r imm => execAddImm8 r imm s
  | .addSrc8 r src => execAddSrc8 r src s
  | .addDst8 dst r => execAddDst8 dst r s
  | .addImm16 r imm => execAddImm16 r imm s
  | .addSrc16 r src => execAddSrc16 r src s
  | .addDst16 dst r => execAddDst16 dst r s
  | .adcImm8 r imm => execAdcImm8 r imm s
  | .adcSrc8 r src => execAdcSrc8 r src s
  | .adcDst8 dst r => execAdcDst8 dst r s
  | .adcImm16 r imm => execAdcImm16 r imm s
  | .adcSrc16 r src => execAdcSrc16 r src s
  | .adcDst16 dst r => execAdcDst16 dst r s
  | .subImm8 r imm => execSubImm8 r imm s
  | .subSrc8 r src => execSubSrc8 r src s
  | .subDst8 dst r => execSubDst8 dst r s
  | .subImm16 r imm => execSubImm16 r imm s
  | .subSrc16 r src => execSubSrc16 r src s
  | .subDst16 dst r => execSubDst16 dst r s
  | .sbcImm8 r imm => execSbcImm8 r imm s
  | .sbcSrc8 r src => execSbcSrc8 r src s
  | .sbcDst8 dst r => execSbcDst8 dst r s
  | .sbcImm16 r imm => execSbcImm16 r imm s
  | .sbcSrc16 r src => execSbcSrc16 r src s
  | .sbcDst16 dst r => execSbcDst16 dst r s
  | .andImm8 r imm => execAndImm8 r imm s
  | .andSrc8 r src => execAndSrc8 r src s
  | .andDst8 dst r => execAndDst8 dst r s
  | .andImm16 r imm => execAndImm16 r imm s
  | .andSrc16 r src => execAndSrc16 r src s
  | .andDst16 dst r => execAndDst16 dst r s
  | .xorImm8 r imm => execXorImm8 r imm s
  | .xorSrc8 r src => execXorSrc8 r src s
  | .xorDst8 dst r => execXorDst8 dst r s
  | .xorImm16 r imm => execXorImm16 r imm s
  | .xorSrc16 r src => execXorSrc16 r src s
  | .xorDst16 dst r => execXorDst16 dst r s
  | .orImm8 r imm => execOrImm8 r imm s
  | .orSrc8 r src => execOrSrc8 r src s
  | .orDst8 dst r => execOrDst8 dst r s
  | .orImm16 r imm => execOrImm16 r imm s
  | .orSrc16 r src => execOrSrc16 r src s
  | .orDst16 dst r => execOrDst16 dst r s
  | .cpImm8 r imm => execCpImm8 r imm s
  | .cpSrc8 r src => execCpSrc8 r src s
  | .cpDst8 dst r => execCpDst8 dst r s
  | .cpImm16 r imm => execCpImm16 r imm s
  | .cpSrc16 r src => execCpSrc16 r src s
  | .cpDst16 dst r => execCpDst16 dst r s
  | .callr _ => .fault .repiTarget
  | .call _ => .fault .repiTarget
  | .calld _ => .fault .repiTarget
  | .callfMem _ => .fault .repiTarget
  | .callrl _ => .fault .repiTarget
  | .callfAbs _ _ => .fault .repiTarget
  | .rst _ => .fault .repiTarget
  | .reti _ => .fault .repiTarget
  | .jr _ _ => .fault .repiTarget
  | .jp _ _ => .fault .repiTarget
  | .jpd _ _ => .fault .repiTarget
  | .jpfMem _ _ => .fault .repiTarget
  | .jrl _ _ => .fault .repiTarget
  | .jpfAbs _ _ _ => .fault .repiTarget
  | .ret _ => .fault .repiTarget
  | .retf _ => .fault .repiTarget

/-- Go on with the decoded target of a REPI whose PCnext is the state's PC: an illegal encoding first, then a forbidden
target (R150, R152; 60_exceptions.md R339). -/
def State.withTarget (s : State) (next : Instr → Result) : Result :=
  match s.fetchAt s.pc with
  | .error _ => s.raiseIllegal s.pc (s.fetchWord s.pc)
  | .ok t => if repeatable t then next t else .fault .repiTarget

/-- One repetition of REPI r after its target: the counter, and PC back at the REPI unless it became 0 (R150). -/
def State.counted (s : State) (r : RepReg) (repi : Word) : State :=
  let v := s.reg8 (counterReg r) - 1
  let t := s.setReg8 (counterReg r) v
  if v = 0 then t else t.setPc repi

/-- REPI r (R150): one step is one repetition. -/
def execRepiReg (r : RepReg) (s : State) : Result :=
  s.withTarget fun t =>
    match execTarget t (s.setPc (s.pc + BitVec.ofNat 16 t.byteLength)) with
    | .next u => .next (u.counted r (s.pc - 2))
    | .fault e => .fault e
    | .refused e => .refused e

/-- `n` executions of the target, which stops when it stores over one of its own bytes (R151; 20_memory.md R93;
log 14). -/
def repeatTarget (t : Instr) (own : List Addr) : Nat → State → Result
  | 0, s => .next s
  | n + 1, s =>
    match execTarget t s with
    | .next u => if (s.stores t).any own.contains then .fault .selfModifyingRepi else repeatTarget t own n u
    | .fault e => .fault e
    | .refused e => .refused e

/-- The last state that `n` executions of the target reach, whether or not one of them stops: what a reset can find in
progress (60_exceptions.md R332; log 6). -/
def repeatReached (t : Instr) (own : List Addr) : Nat → State → State
  | 0, s => s
  | n + 1, s =>
    match execTarget t s with
    | .next u => if (s.stores t).any own.contains then u else repeatReached t own n u
    | .fault _ => s
    | .refused _ => s

/-- The repetition count of REPI imm: the field plus two (R151). -/
def repeatCount (field : BitVec 4) : Nat := field.toNat + 2

/-- REPI imm (R151): one atomic step, its target fetched once. -/
def execRepiImm (field : BitVec 4) (s : State) : Result :=
  s.withTarget fun t =>
    repeatTarget t (s.codeBytes s.pc t.byteLength) (repeatCount field)
      (s.setPc (s.pc + BitVec.ofNat 16 t.byteLength))

/-- The last state that REPI imm reaches, whether or not it stops (R151; 60_exceptions.md R332). -/
def State.repiImmReached (s : State) (field : BitVec 4) : State :=
  match s.fetchAt s.pc with
  | .error _ => s
  | .ok t =>
    if repeatable t then
      repeatReached t (s.codeBytes s.pc t.byteLength) (repeatCount field)
        (s.setPc (s.pc + BitVec.ofNat 16 t.byteLength))
    else s

end Sys2Proof.Machine
end

