-- ==== Sys2Proof/Machine/Dispatch.lean ====
section
/-! DEFINITION. The meaning of every instruction, by name. `exec i s` is the instruction's effect in a state whose PC
already holds PCnext (log 13). -/

namespace Sys2Proof.Machine

/-- Execute one instruction. -/
def exec (i : Instr) (s : State) : Host.Outcome State Fault Refusal :=
  match i with
  | .nop => Sys2Proof.Machine.execNop s
  | .exs list => Sys2Proof.Machine.execExs list s
  | .djnz8 r pcr8 => Sys2Proof.Machine.execDjnz8 r pcr8 s
  | .djnz16 r pcr8 => Sys2Proof.Machine.execDjnz16 r pcr8 s
  | .halt => Sys2Proof.Machine.execHalt s
  | .stop => Sys2Proof.Machine.execStop s
  | .ccf => Sys2Proof.Machine.execCcf s
  | .sds => Sys2Proof.Machine.execSds s
  | .daa => Sys2Proof.Machine.execDaa s
  | .sao => Sys2Proof.Machine.execSao s
  | .das => Sys2Proof.Machine.execDas s
  | .sau => Sys2Proof.Machine.execSau s
  | .repiReg r => Sys2Proof.Machine.execRepiReg r s
  | .repiImm field => Sys2Proof.Machine.execRepiImm field s
  | .ldpca dst pcr16 => Sys2Proof.Machine.execLdpca dst pcr16 s
  | .ldixa dst simm => Sys2Proof.Machine.execLdixa dst simm s
  | .ldspa dst imm => Sys2Proof.Machine.execLdspa dst imm s
  | .ldFromPortInc dst => Sys2Proof.Machine.execLdFromPortInc dst s
  | .ldFromF dst => Sys2Proof.Machine.execLdFromF dst s
  | .ldFromPort dst => Sys2Proof.Machine.execLdFromPort dst s
  | .ldFromC dst => Sys2Proof.Machine.execLdFromC dst s
  | .ldFromPortDec dst => Sys2Proof.Machine.execLdFromPortDec dst s
  | .ldFromE dst => Sys2Proof.Machine.execLdFromE dst s
  | .mulu src => Sys2Proof.Machine.execMulu src s
  | .mulsw src => Sys2Proof.Machine.execMulsw src s
  | .divu src => Sys2Proof.Machine.execDivu src s
  | .divsw src => Sys2Proof.Machine.execDivsw src s
  | .ldPortInc src => Sys2Proof.Machine.execLdPortInc src s
  | .ldF src => Sys2Proof.Machine.execLdF src s
  | .ldPort src => Sys2Proof.Machine.execLdPort src s
  | .ldC src => Sys2Proof.Machine.execLdC src s
  | .ldPortDec src => Sys2Proof.Machine.execLdPortDec src s
  | .ldE src => Sys2Proof.Machine.execLdE src s
  | .resf mask => Sys2Proof.Machine.execResf mask s
  | .di mask => Sys2Proof.Machine.execDi mask s
  | .setf mask => Sys2Proof.Machine.execSetf mask s
  | .ei mask => Sys2Proof.Machine.execEi mask s
  | .inc field dst => Sys2Proof.Machine.execInc field dst s
  | .dec field dst => Sys2Proof.Machine.execDec field dst s
  | .neg dst => Sys2Proof.Machine.execNeg dst s
  | .cpl dst => Sys2Proof.Machine.execCpl dst s
  | .ngc dst => Sys2Proof.Machine.execNgc dst s
  | .clr dst => Sys2Proof.Machine.execClr dst s
  | .incw field dst => Sys2Proof.Machine.execIncw field dst s
  | .decw field dst => Sys2Proof.Machine.execDecw field dst s
  | .negw dst => Sys2Proof.Machine.execNegw dst s
  | .cplw dst => Sys2Proof.Machine.execCplw dst s
  | .ngcw dst => Sys2Proof.Machine.execNgcw dst s
  | .clrw dst => Sys2Proof.Machine.execClrw dst s
  | .rlc dst => Sys2Proof.Machine.execRlc dst s
  | .rrc dst => Sys2Proof.Machine.execRrc dst s
  | .rl dst => Sys2Proof.Machine.execRl dst s
  | .rr dst => Sys2Proof.Machine.execRr dst s
  | .sla dst => Sys2Proof.Machine.execSla dst s
  | .sra dst => Sys2Proof.Machine.execSra dst s
  | .swap dst => Sys2Proof.Machine.execSwap dst s
  | .srl dst => Sys2Proof.Machine.execSrl dst s
  | .rlcw dst => Sys2Proof.Machine.execRlcw dst s
  | .rrcw dst => Sys2Proof.Machine.execRrcw dst s
  | .rlw dst => Sys2Proof.Machine.execRlw dst s
  | .rrw dst => Sys2Proof.Machine.execRrw dst s
  | .slaw dst => Sys2Proof.Machine.execSlaw dst s
  | .sraw dst => Sys2Proof.Machine.execSraw dst s
  | .swapw dst => Sys2Proof.Machine.execSwapw dst s
  | .srlw dst => Sys2Proof.Machine.execSrlw dst s
  | .bitImmPort bit => Sys2Proof.Machine.execBitImmPort bit s
  | .resImmPort bit => Sys2Proof.Machine.execResImmPort bit s
  | .setImmPort bit => Sys2Proof.Machine.execSetImmPort bit s
  | .bitImm bit src => Sys2Proof.Machine.execBitImm bit src s
  | .resImm bit dst => Sys2Proof.Machine.execResImm bit dst s
  | .setImm bit dst => Sys2Proof.Machine.execSetImm bit dst s
  | .bitAccPort r => Sys2Proof.Machine.execBitAccPort r s
  | .resAccPort r => Sys2Proof.Machine.execResAccPort r s
  | .setAccPort r => Sys2Proof.Machine.execSetAccPort r s
  | .bitAcc r src => Sys2Proof.Machine.execBitAcc r src s
  | .resAcc r dst => Sys2Proof.Machine.execResAcc r dst s
  | .setAcc r dst => Sys2Proof.Machine.execSetAcc r dst s
  | .ldCImm imm => Sys2Proof.Machine.execLdCImm imm s
  | .addCImm imm => Sys2Proof.Machine.execAddCImm imm s
  | .popF => Sys2Proof.Machine.execPopF s
  | .popGpr => Sys2Proof.Machine.execPopGpr s
  | .popAll => Sys2Proof.Machine.execPopAll s
  | .pop dst => Sys2Proof.Machine.execPop dst s
  | .pushKF => Sys2Proof.Machine.execPushKF s
  | .pushGpr => Sys2Proof.Machine.execPushGpr s
  | .pushAll => Sys2Proof.Machine.execPushAll s
  | .push src => Sys2Proof.Machine.execPush src s
  | .stZm8 dst r => Sys2Proof.Machine.execStZm8 dst r s
  | .ldZm8 r src => Sys2Proof.Machine.execLdZm8 r src s
  | .stZm16 dst r => Sys2Proof.Machine.execStZm16 dst r s
  | .ldZm16 r src => Sys2Proof.Machine.execLdZm16 r src s
  | .ld dst src => Sys2Proof.Machine.execLd dst src s
  | .ldw dst src => Sys2Proof.Machine.execLdw dst src s
  | .ldRegImm r imm => Sys2Proof.Machine.execLdRegImm r imm s
  | .addImm8 r imm => Sys2Proof.Machine.execAddImm8 r imm s
  | .addSrc8 r src => Sys2Proof.Machine.execAddSrc8 r src s
  | .addDst8 dst r => Sys2Proof.Machine.execAddDst8 dst r s
  | .addImm16 r imm => Sys2Proof.Machine.execAddImm16 r imm s
  | .addSrc16 r src => Sys2Proof.Machine.execAddSrc16 r src s
  | .addDst16 dst r => Sys2Proof.Machine.execAddDst16 dst r s
  | .adcImm8 r imm => Sys2Proof.Machine.execAdcImm8 r imm s
  | .adcSrc8 r src => Sys2Proof.Machine.execAdcSrc8 r src s
  | .adcDst8 dst r => Sys2Proof.Machine.execAdcDst8 dst r s
  | .adcImm16 r imm => Sys2Proof.Machine.execAdcImm16 r imm s
  | .adcSrc16 r src => Sys2Proof.Machine.execAdcSrc16 r src s
  | .adcDst16 dst r => Sys2Proof.Machine.execAdcDst16 dst r s
  | .subImm8 r imm => Sys2Proof.Machine.execSubImm8 r imm s
  | .subSrc8 r src => Sys2Proof.Machine.execSubSrc8 r src s
  | .subDst8 dst r => Sys2Proof.Machine.execSubDst8 dst r s
  | .subImm16 r imm => Sys2Proof.Machine.execSubImm16 r imm s
  | .subSrc16 r src => Sys2Proof.Machine.execSubSrc16 r src s
  | .subDst16 dst r => Sys2Proof.Machine.execSubDst16 dst r s
  | .sbcImm8 r imm => Sys2Proof.Machine.execSbcImm8 r imm s
  | .sbcSrc8 r src => Sys2Proof.Machine.execSbcSrc8 r src s
  | .sbcDst8 dst r => Sys2Proof.Machine.execSbcDst8 dst r s
  | .sbcImm16 r imm => Sys2Proof.Machine.execSbcImm16 r imm s
  | .sbcSrc16 r src => Sys2Proof.Machine.execSbcSrc16 r src s
  | .sbcDst16 dst r => Sys2Proof.Machine.execSbcDst16 dst r s
  | .andImm8 r imm => Sys2Proof.Machine.execAndImm8 r imm s
  | .andSrc8 r src => Sys2Proof.Machine.execAndSrc8 r src s
  | .andDst8 dst r => Sys2Proof.Machine.execAndDst8 dst r s
  | .andImm16 r imm => Sys2Proof.Machine.execAndImm16 r imm s
  | .andSrc16 r src => Sys2Proof.Machine.execAndSrc16 r src s
  | .andDst16 dst r => Sys2Proof.Machine.execAndDst16 dst r s
  | .xorImm8 r imm => Sys2Proof.Machine.execXorImm8 r imm s
  | .xorSrc8 r src => Sys2Proof.Machine.execXorSrc8 r src s
  | .xorDst8 dst r => Sys2Proof.Machine.execXorDst8 dst r s
  | .xorImm16 r imm => Sys2Proof.Machine.execXorImm16 r imm s
  | .xorSrc16 r src => Sys2Proof.Machine.execXorSrc16 r src s
  | .xorDst16 dst r => Sys2Proof.Machine.execXorDst16 dst r s
  | .orImm8 r imm => Sys2Proof.Machine.execOrImm8 r imm s
  | .orSrc8 r src => Sys2Proof.Machine.execOrSrc8 r src s
  | .orDst8 dst r => Sys2Proof.Machine.execOrDst8 dst r s
  | .orImm16 r imm => Sys2Proof.Machine.execOrImm16 r imm s
  | .orSrc16 r src => Sys2Proof.Machine.execOrSrc16 r src s
  | .orDst16 dst r => Sys2Proof.Machine.execOrDst16 dst r s
  | .cpImm8 r imm => Sys2Proof.Machine.execCpImm8 r imm s
  | .cpSrc8 r src => Sys2Proof.Machine.execCpSrc8 r src s
  | .cpDst8 dst r => Sys2Proof.Machine.execCpDst8 dst r s
  | .cpImm16 r imm => Sys2Proof.Machine.execCpImm16 r imm s
  | .cpSrc16 r src => Sys2Proof.Machine.execCpSrc16 r src s
  | .cpDst16 dst r => Sys2Proof.Machine.execCpDst16 dst r s
  | .callr pcr10 => Sys2Proof.Machine.execCallr pcr10 s
  | .call addr => Sys2Proof.Machine.execCall addr s
  | .calld addr => Sys2Proof.Machine.execCalld addr s
  | .callfMem src => Sys2Proof.Machine.execCallfMem src s
  | .callrl pcr15 => Sys2Proof.Machine.execCallrl pcr15 s
  | .callfAbs bank a16 => Sys2Proof.Machine.execCallfAbs bank a16 s
  | .rst num => Sys2Proof.Machine.execRst num s
  | .reti int => Sys2Proof.Machine.execReti int s
  | .jr cond pcr10 => Sys2Proof.Machine.execJr cond pcr10 s
  | .jp cond addr => Sys2Proof.Machine.execJp cond addr s
  | .jpd cond addr => Sys2Proof.Machine.execJpd cond addr s
  | .jpfMem cond src => Sys2Proof.Machine.execJpfMem cond src s
  | .jrl cond pcr15 => Sys2Proof.Machine.execJrl cond pcr15 s
  | .jpfAbs cond bank a16 => Sys2Proof.Machine.execJpfAbs cond bank a16 s
  | .ret cond => Sys2Proof.Machine.execRet cond s
  | .retf cond => Sys2Proof.Machine.execRetf cond s

end Sys2Proof.Machine
end

