-- ==== Sys2Proof/Machine/Boundary.lean ====
section
/-! DEFINITION. What happens at a step boundary: wake-up, interrupt acceptance, or the next instruction; and the external
reset, at the boundary or during the step (spec/60_exceptions.md R332, R338, R346). -/

namespace Sys2Proof.Machine

/-- A boundary at which the environment asserts nothing. -/
def quietInput : BoundaryInput := ⟨none, false, 0, false⟩

/-- What the environment presents at this boundary; nothing when it has no more to present (log 7). -/
def State.input (s : State) : BoundaryInput :=
  match s.inputs with
  | [] => quietInput
  | b :: _ => b

/-- The state with this boundary's input taken. -/
def State.inputTaken (s : State) : State := { s with inputs := s.inputs.tail }

/-- Fetch, decode, advance PC past the words, execute; an illegal encoding raises IllegalInstruction before anything is
read or written (00_scope.md R16, 30_encoding.md R121). -/
def runInstr (s : State) : Result :=
  match s.fetchAt s.pc with
  | .error _ => s.raiseIllegal s.pc (s.fetchWord s.pc)
  | .ok i => exec i (s.setPc (s.pc + BitVec.ofNat 16 i.byteLength))

/-- A boundary of a running or halted core with no reset: NMI, then the lowest enabled request, then the next
instruction, or staying halted (R338). -/
def boundary (b : BoundaryInput) (s : State) : Result :=
  if b.nmi then .next s.enterNmi
  else
    match s.accepted b.pending with
    | some n => .next (s.enterIrq n)
    | none => if s.run = .running then runInstr s else .next s

/-! ## The external reset, at any time (R332, R339; log 6) -/

/-- The last state instruction `i` reaches from `s`: the one it ends in, or the last before it stops. Only REPI imm can
access a port and stop after that. -/
def reached (i : Instr) (s : State) : State :=
  match i with
  | .repiImm field => s.repiImmReached field
  | _ =>
    match exec i s with
    | .next u => u
    | .fault _ => s
    | .refused _ => s

/-- The last state that the step of a boundary reaches, as far as port accesses go: an entry, an illegal encoding, a
halted core and a stopped one make none. -/
def State.inProgress (s : State) (b : BoundaryInput) : State :=
  if s.run = .running ∧ b.nmi = false ∧ s.accepted b.pending = none then
    match s.fetchAt s.pc with
    | .error _ => s
    | .ok i => reached i (s.setPc (s.pc + BitVec.ofNat 16 i.byteLength))
  else s

/-- A port access that takes an answer of the environment. -/
def IoEvent.isRead : IoEvent → Bool
  | .read _ _ => true
  | .write _ _ => false

/-- The first `n` port accesses that lead from `s` to `u`, the latest first. -/
def State.firstAccesses (s u : State) (n : Nat) : List IoEvent :=
  let made := u.ioLog.take (u.ioLog.length - s.ioLog.length)
  made.drop (made.length - n)

/-- The step from `s` towards `u`, abandoned after `n` port accesses: those were made, and took their answers and their
free values; whatever else it did, reset leaves unspecified or sets (10_state.md R45). -/
def State.abandoned (s u : State) (n : Nat) : State :=
  let made := s.firstAccesses u n
  { s with
    ioLog := made ++ s.ioLog
    portAnswers := s.portAnswers.drop (made.countP IoEvent.isRead)
    fresh := u.fresh }

/-- One step: reset over everything, abandoning what is in progress (R332, R339); a stopped core only wakes (R346). -/
def takeStep (s : State) : Result :=
  let b := s.input
  let t := s.inputTaken
  match b.reset with
  | some n => .next (t.abandoned (t.inProgress b) n).resetEntry
  | none =>
    if s.run = .stopped then .next (if b.wakeup then { t with run := .running } else t)
    else boundary b t

/-- The state with the six bytes of a table word at K:PC, running, and a quiet boundary before the environment's next
input. -/
def fetchWordPlaced (s : State) (nbits w : Nat) : State :=
  State.placeBytes s.pc 0 (tableBytes nbits w) { s with run := .running, inputs := quietInput :: s.inputs }

end Sys2Proof.Machine
end

