-- ==== Sys2Proof/Machine/Step.lean ====
section
/-! DEFINITION. The step function: `takeStep` of Boundary.lean. -/

namespace Sys2Proof.Machine

/-- One step of the machine. -/
def step (s : State) : Host.Outcome State Fault Refusal := takeStep s

/-- The state with the instruction `w` of `nbits` bits (the bits above zero) stored where the next step fetches, that
step's boundary quiet and the core running (log 30). -/
def State.withFetchWord (s : State) (nbits w : Nat) : State := fetchWordPlaced s nbits w

end Sys2Proof.Machine
end

