-- ==== Sys2Proof/Safety.lean ====
section
/-! DEFINITION. What claims about the machine are said in: the canonical memory, fault-free runs and the end of a run
(spec/70_reset_and_hazards.md R363), and what an instruction may change, said once for all operand forms. -/

namespace Sys2Proof

/-- The memory mode of an rm8 destination, if it is one. -/
def Loc8.memory : Loc8 → Option Mem
  | .reg _ => none
  | .mem m => some m

/-- The memory mode of an rm8 source, if it is one. -/
def Src8.memory : Src8 → Option Mem
  | .imm _ => none
  | .loc l => l.memory

/-- The memory mode of an rm16 destination, if it is one. -/
def Loc16.memory : Loc16 → Option Mem
  | .reg _ => none
  | .mem m => some m

/-- The memory mode of an rm16 source, if it is one. -/
def Src16.memory : Src16 → Option Mem
  | .imm _ => none
  | .pseudo _ => none
  | .loc l => l.memory

end Sys2Proof

namespace Sys2Proof.Machine

/-! ## Runs -/

/-- Memory is in its one canonical form. -/
def MemoryCanonical (s : State) : Prop := s.mem.wf = true

/-- `n` steps, stopping at the first fault or refusal. -/
def steps : Nat → State → Result
  | 0, s => .next s
  | n + 1, s =>
    match step s with
    | .next t => steps n t
    | .fault e => .fault e
    | .refused e => .refused e

/-- `n` steps from here raise no fault and are refused by nothing. -/
def FaultFree (n : Nat) (s : State) : Prop := ∃ t, steps n s = .next t

/-- A final state: a running core at a step boundary with K:PC = END (R363). A core halted or stopped at END is none: a
permanent HALT or STOP is a hang (60_exceptions.md R346, decision D38), and one that is woken comes back to K:PC = END
running; that `run` is asked for is the model's reading (DESIGN CHOICE; log 32). -/
def AtEnd (endAddr : Addr) (s : State) : Prop := s.run = .running ∧ s.k ++ s.pc = endAddr

/-- A run of `n` steps is complete at END in the state `t`: the instruction at END is not executed (R363; log 32). -/
def CompletesIn (n : Nat) (endAddr : Addr) (s t : State) : Prop :=
  steps n s = .next t ∧ AtEnd endAddr t ∧ ∀ m < n, ∀ u, steps m s = .next u → ¬ AtEnd endAddr u

/-- `n` executions of one instruction, one after the other. -/
def execTimes (i : Instr) : Nat → State → Result
  | 0, s => .next s
  | n + 1, s =>
    match exec i s with
    | .next t => execTimes i n t
    | .fault e => .fault e
    | .refused e => .refused e

/-! ## What an instruction may change -/

/-- `t` differs from `s` at most in the general registers, SP, F, memory and the count of free values: K, PC, E, the
shadow set, F', the run state, the ports, the environment's inputs and the parameters are the same. -/
def DataOnly (s t : State) : Prop :=
  t = { s with regs := t.regs, spHi := t.spHi, f := t.f, mem := t.mem, fresh := t.fresh }

/-- Every byte of memory outside `own` reads as before. -/
def MemoryKept (own : List Addr) (s t : State) : Prop := ∀ a, a ∉ own → t.readByte a = s.readByte a

/-- A pointer after an auto-index by `w` bytes (20_memory.md R75). -/
def movedBy (dir : Dir) (w : Nat) (p : Word) : Word :=
  match dir with
  | .inc => p + BitVec.ofNat 16 w
  | .dec => p - BitVec.ofNat 16 w

/-- The pointer update carries or borrows out of bit 15 (20_memory.md R82). -/
def leftSegment (dir : Dir) (w : Nat) (p : Word) : Bool :=
  match dir with
  | .inc => decide (0xFFFF < p.toNat + w)
  | .dec => decide (p.toNat < w)

/-- The 16-bit registers `u` after the auto-index of a memory operand of `w` bytes, if it has one (R75, R81). -/
def movedRegs (m : Option Mem) (w : Nat) (u : Reg16 → Word) (r : Reg16) : Word :=
  match m with
  | some (.auto _ p dir) => if r = indexReg p then movedBy dir w (u r) else u r
  | _ => u r

/-- The carry or borrow of the "DS:" auto-index of a memory operand (R82); none when the operand has none. -/
def segmentFlag (m : Option Mem) (w : Nat) (u : Reg16 → Word) : Option Bool :=
  match m with
  | some (.auto .ds p dir) => some (leftSegment dir w (u (indexReg p)))
  | _ => none

/-- The 16-bit registers (SP among them) of `t` are those of `u` after the source's auto-index, then the destination's;
register C is `u`'s. -/
def RegsAre (t : State) (w : Nat) (src dst : Option Mem) (u : State) : Prop :=
  (∀ r, t.reg16 r = movedRegs dst w (movedRegs src w u.reg16) r) ∧ t.regs.c = u.regs.c

/-- The flags of `t` are `f`, A apart, and V apart where the spec leaves V unspecified. -/
def FlagsBesidesA (t : State) (vOpen : Bool) (f : Flags) : Prop :=
  t.f = { f with a := t.f.a, v := if vOpen then t.f.v else f.v }

/-- A of `t`. `own = none` is the column `*`: only a "DS:" auto-index writes A, with its carry or with any value as
`A_ON_AUTOINDEX` says, and two leave it free (R82, R83). `own = some a` is the columns `C` and `O`: A is `a`, and free
when a "DS:" auto-index writes it too (R83). -/
def FlagAIs (t : State) (w : Nat) (src dst : Option Mem) (u : State) (before : Bool) (own : Option Bool) : Prop :=
  match segmentFlag src w u.reg16, segmentFlag dst w (movedRegs src w u.reg16) with
  | none, none => t.f.a = own.getD before
  | some a, none => own = none → u.params.aOnAutoIndex = .carry → t.f.a = a
  | none, some a => own = none → u.params.aOnAutoIndex = .carry → t.f.a = a
  | some _, some _ => True

/-- SP or PC that held `old` after `v` is written: bit 0 of `v` dropped, or, under `ODD_WRITE` = `keep`, an odd `v` not
written at all (10_state.md R26, R27). -/
def afterWrite (p : Params) (old v : Word) : Word :=
  if p.oddWrite = .keep ∧ v.getLsbD 0 = true then old else v &&& 0xFFFE

/-- An 8-bit register destination written, a memory destination left to `Stored8`. -/
def State.withReg8 (s : State) (l : Loc8) (v : Byte) : State :=
  match l with
  | .reg r => s.setReg8 r v
  | .mem _ => s

/-- A 16-bit register destination written, a memory destination left to `Stored16`. -/
def State.withReg16 (s : State) (l : Loc16) (v : Word) : State :=
  match l with
  | .reg r => s.setReg16 r v
  | .mem _ => s

/-- The byte `v` is stored to the memory operand that `s` resolves, if there is one, and nothing else is stored. -/
def Stored8 (s t : State) (m : Option Mem) (v : Byte) : Prop :=
  match m with
  | none => MemoryKept [] s t
  | some m => (MemoryCanonical s → t.read8 (s.memEa m) = v) ∧ MemoryKept (s.memEa m).bytes8 s t

/-- The word `v` is stored to the memory operand that `s` resolves, if there is one, and nothing else is stored. -/
def Stored16 (s t : State) (m : Option Mem) (v : Word) : Prop :=
  match m with
  | none => MemoryKept [] s t
  | some m => (MemoryCanonical s → t.read16 (s.memEa m) = v) ∧ MemoryKept (s.memEa m).bytes16 s t

/-- A 16-bit or 24-bit access at this location does not stop: its linear address is even, unless the parameter
`MISALIGNED` lets odd ones be (20_memory.md R64). -/
abbrev AccessAllowed (s : State) (ea : Ea) : Prop := s.params.misaligned = .fault → ea.addr.getLsbD 0 = false

/-- The access to a 16-bit memory operand, if there is one, does not stop in `s`. -/
def EvenMem (s : State) (m : Option Mem) : Prop := ∀ x, m = some x → AccessAllowed s (s.memEa x)

/-- Instruction `i` completes from `s` with `v` in its 8-bit destination, the pointers stepped (the source's first),
the flags `f` (A by `own`, V free if `vOpen`), and everything else as it was. -/
def Ends8 (i : Instr) (s : State) (src : Option Mem) (dst : Loc8) (v : Byte) (vOpen : Bool) (own : Option Bool)
    (f : Flags) : Prop :=
  ∃ t, exec i s = .next t ∧ DataOnly s t ∧ RegsAre t 1 src dst.memory (s.withReg8 dst v) ∧
    Stored8 s t dst.memory v ∧ FlagsBesidesA t vOpen f ∧ FlagAIs t 1 src dst.memory (s.withReg8 dst v) s.f.a own

/-- Instruction `i` completes from `s` with `v` in its 16-bit destination (SP as `ODD_WRITE` says), the pointers
stepped, the flags `f` (A by `own`, V free if `vOpen`), and everything else as it was. -/
def Ends16 (i : Instr) (s : State) (src : Option Mem) (dst : Loc16) (v : Word) (vOpen : Bool) (own : Option Bool)
    (f : Flags) : Prop :=
  ∃ t, exec i s = .next t ∧ DataOnly s t ∧ RegsAre t 2 src dst.memory (s.withReg16 dst v) ∧
    Stored16 s t dst.memory v ∧ FlagsBesidesA t vOpen f ∧ FlagAIs t 2 src dst.memory (s.withReg16 dst v) s.f.a own

/-- Instruction `i` of operand size `w` completes from `s` storing nothing: the registers are those of `u` after the
auto-index of the operands, the flags `f` (A by `own`). -/
def EndsReading (i : Instr) (s : State) (w : Nat) (src dst : Option Mem) (u : State) (own : Option Bool) (f : Flags) :
    Prop :=
  ∃ t, exec i s = .next t ∧ DataOnly s t ∧ RegsAre t w src dst u ∧ MemoryKept [] s t ∧ FlagsBesidesA t false f ∧
    FlagAIs t w src dst u s.f.a own

/-! ## Flags of the two-operand instructions, in integers -/

/-- The flags of the sum x + y + k at `w` bits: S and Z of the sum modulo 2^w, H the carry of the digits below `m`, V the
signed sum leaving its range, C the unsigned carry (47_alu.md R289). -/
def sumFlags {w : Nat} (m : Nat) (f : Flags) (x y : BitVec w) (k : Nat) : Flags :=
  let r := x + y + BitVec.ofNat w k
  let signed : Int := x.toInt + y.toInt + k
  { f with
    s := decide (r.toInt < 0), z := decide (r = 0), h := decide (m ≤ x.toNat % m + y.toNat % m + k),
    v := decide (signed < -2 ^ (w - 1) ∨ 2 ^ (w - 1) ≤ signed), c := decide (2 ^ w ≤ x.toNat + y.toNat + k) }

/-- The flags of the difference x - y - k at `w` bits: S and Z of the difference modulo 2^w, H the borrow of the digits
below `m`, V the signed difference leaving its range, C the unsigned borrow (47_alu.md R289). -/
def differenceFlags {w : Nat} (m : Nat) (f : Flags) (x y : BitVec w) (k : Nat) : Flags :=
  let r := x - y - BitVec.ofNat w k
  let signed : Int := x.toInt - y.toInt - k
  { f with
    s := decide (r.toInt < 0), z := decide (r = 0), h := decide (x.toNat % m < y.toNat % m + k),
    v := decide (signed < -2 ^ (w - 1) ∨ 2 ^ (w - 1) ≤ signed), c := decide (x.toNat < y.toNat + k) }

/-- The number of 1 bits among the low `n` bits is even (43_unary.md R203). -/
def evenOnes {w : Nat} (n : Nat) (r : BitVec w) : Bool :=
  decide (((List.range n).filter (fun k => r.getLsbD k)).length % 2 = 0)

/-- The flags of a logic result: S, Z, and V the parity of its low `n` bits; H and C stay (47_alu.md R289). -/
def bitwiseFlags {w : Nat} (n : Nat) (f : Flags) (r : BitVec w) : Flags :=
  { f with s := decide (r.toInt < 0), z := decide (r = 0), v := evenOnes n r }

/-! ## Ports and frames -/

/-- `v` is what port C answers: the environment's next answer if it has one, else any value (20_memory.md R62). -/
def PortAnswer (s : State) (v : Byte) : Prop := ∀ w rest, s.portAnswers = w :: rest → v = w

/-- The state after one read of port C that answered `v`. -/
def State.afterPortRead (s : State) (v : Byte) : State :=
  { s with portAnswers := s.portAnswers.tail, ioLog := .read s.regs.c v :: s.ioLog }

/-- The far frame `s.k : s.f`, `ret` is on the stack of `t`, whose SP is four lower; nothing else is stored
(60_exceptions.md R334). -/
def FarFrame (s t : State) (ret : Word) : Prop :=
  t.sp = s.sp - 4 ∧ MemoryKept (s.pushArea 2) s t ∧
    (MemoryCanonical s → t.read16 (Ea.bank0 t.sp) = ret ∧ t.readByte (0#8 ++ (t.sp + 2)) = s.f.toByte ∧
      t.readByte (0#8 ++ (t.sp + 3)) = s.k)

/-! ## Shorthands of the statements -/

/-- Nothing is accepted at the next boundary of `s`: no reset, no NMI, no enabled request (60_exceptions.md R338). -/
def QuietBoundary (s : State) : Prop :=
  s.input.reset = none ∧ s.input.nmi = false ∧ s.accepted s.input.pending = none

/-- `t` holds what a step from `s` towards `u` leaves outside the core when a reset comes after `n` port accesses: the
first `n` of them, or all where there are fewer, and the answers they took (60_exceptions.md R332; log 6). -/
def AbandonedAfter (n : Nat) (s u t : State) : Prop :=
  ∃ made rest : List IoEvent, u.ioLog = rest ++ made ++ s.ioLog ∧ t.ioLog = made ++ s.ioLog ∧
    made.length ≤ n ∧ (rest = [] ∨ made.length = n) ∧
    t.portAnswers = s.portAnswers.drop (made.countP IoEvent.isRead)

/-- A repetition of target `i` from `u` stores over the target's own bytes `code` (20_memory.md R93). -/
def StoresOver (i : Instr) (code : List Addr) (u : State) : Prop := ∃ a ∈ u.stores i, a ∈ code

/-- The repetitions of target `i` from `s` end in `u`: after `count` of them, before one that stops, or with the first
that stores over the target's own bytes (40_misc_system.md R151, 20_memory.md R93). -/
def RepetitionsEnd (i : Instr) (code : List Addr) (count : Nat) (s u : State) : Prop :=
  ∃ m ≤ count, execTimes i m s = .next u ∧
    (∀ (l : Nat) (w : State), l + 1 < m → execTimes i l s = .next w → ¬ StoresOver i code w) ∧
    (m = count ∨ (∀ v, exec i u ≠ .next v) ∨
      ∃ (l : Nat) (w : State), m = l + 1 ∧ execTimes i l s = .next w ∧ StoresOver i code w)

/-- REPI in either form. -/
def IsRepi (i : Instr) : Prop := (∃ r, i = .repiReg r) ∨ ∃ n, i = .repiImm n

/-- The Z register of an auto-index ZM operand holds, in `t`, the word it held in `u` moved by `w`, and A is as a "DS:"
auto-index leaves it: its carry, or any value, as `A_ON_AUTOINDEX` says; the flags are else those of `u`
(20_memory.md R82, R84). -/
def ZStepped (u t : State) (z : Zm) (w : Nat) : Prop :=
  match z with
  | .auto seg n dir =>
    (MemoryCanonical u → t.read16 (Ea.zReg n) = movedBy dir w (u.read16 (Ea.zReg n))) ∧
      t.f = { u.f with a := t.f.a } ∧ (seg = .bank0 → t.f.a = u.f.a) ∧
      (seg = .ds → u.params.aOnAutoIndex = .carry → t.f.a = leftSegment dir w (u.read16 (Ea.zReg n)))
  | _ => t.f = u.f

end Sys2Proof.Machine
end

