-- ==== Sys2Proof/Certificates/Slice0/Obligations.lean ====
section
/-! DEFINITION. The statements for the provers. In every statement about `exec i s` the PC of `s` is already PCnext, the
address after the instruction's words (log 13); `Obligations.StepRunsDecoded` ties `exec` to `step`. Every statement is
about every value of the parameters (`State.params`); where A is what one "DS:" auto-index makes it (`FlagAIs`,
`ZStepped`), it is the carry by default and any value under `A_ON_AUTOINDEX` = `free` (decision D4; logs 22, 37). -/

section

open Sys2Proof Sys2Proof.Machine

/-! ## Reset and encoding -/

/-- R45, R332: K, PC, `run`, F.I and E after reset, no request latched. The values of F.I, E and `run` are the spec's
own decision D17 (log 20); that the list of boundary inputs to come is empty is the model's choice, not the rule's
(log 7). -/
def Obligations.ResetState : Prop :=
  State.reset.k = 0xFF ∧ State.reset.pc = 0x0000 ∧ State.reset.run = .running ∧ State.reset.f.i = false ∧
    State.reset.e = 0x00 ∧ State.reset.inputs = []

/-- R113 to R119: words written out bit by bit from the encoding tables decode to the instructions they stand for (with
the default parameters). -/
def Obligations.WrittenWordsDecode : Prop :=
  decode .default 0b0000000000000000 0 0 = .ok .nop ∧
  decode .default 0b0000010111111111 0 0 = .ok (.exs ⟨true, true, true, true, true, true, true, true, true, true⟩) ∧
  decode .default 0b0001000000101011 0x0010 0 = .ok (.ldpca (.reg .hl) 0x0010) ∧
  decode .default 0b0001001001000000 0x0007 0 = .ok (.divu (.imm 7)) ∧
  decode .default 0b0010000011101010 0 0 = .ok (.inc 7 (.mem (.plain (.hl .bank0)))) ∧
  decode .default 0b0011000101111110 0 0 = .ok (.bitImmPort 3) ∧
  decode .default 0b0100001110011111 0 0 = .ok .pushKF ∧
  decode .default 0b0101000111100011 0 0 = .ok (.stZm8 (.high 1) .b) ∧
  decode .default 0b0110000100000000 0x007F 0x1000 = .ok (.ld (.mem (.plain (.direct0 0x1000))) (.imm 0x7F)) ∧
  decode .default 0b0111010000110100 0 0 = .ok (.ldRegImm .b 0x34) ∧
  decode .default 0b1000011100000011 0 0 = .ok (.addSrc16 .hl (.loc (.reg .ab))) ∧
  decode .default 0b1110111001010000 0 0 = .ok (.jpfAbs .always 0x50 0) ∧
  decode .default 0b1110111101010000 0 0 = .ok (.reti 2) ∧
  decode .default 0b1111111100001000 0 0 = .ok (.rst 8)

/-- R100, R101, R106, R113 to R119: the decoder reads back what the encoder writes, for every well-formed instruction,
every value of its operands and of the parameters, whatever follows it in memory. -/
def Obligations.DecodeReadsEncode : Prop :=
  ∀ (p : Params) (i : Instr) (rest : List Byte), i.wf = true →
    decodeBytes p (bytesOfWords (encode p i) ++ rest) = .ok (i, rest)

/-- R112, R120, R123 and R106: each word has one meaning: what the decoder accepts is well-formed, begins with the word
it was read from, and, with `PAD_NONZERO` = `illegal`, the default, encodes to the very words it was read from. That
the pad of an 8-bit immediate is zero, and a `pcr15` word its offset in bits 15:1 and a zero bit 0 by default, is the
spec's own choice (R106, decisions D9 and D11; logs 25, 37). -/
def Obligations.EncodeRestoresWords : Prop :=
  ∀ (p : Params) (w e1 e2 : Word) (i : Instr), decode p w e1 e2 = .ok i →
    i.wf = true ∧ (encode p i).head? = some w ∧
    (p.padNonzero = .illegal → encode p i = [w, e1, e2].take (1 + (i.ext p).length))

/-- R105: which RM codes each operand position accepts. -/
def Obligations.LegalRmCodes : Prop :=
  ∀ (p : Params) (code : Fin 32) (ext : Word),
    ((∃ l, decodeLoc8 code ext = .ok l) ↔ code.val ≠ 0 ∧ code.val ≠ 28 ∧ code.val ≠ 30) ∧
    ((∃ l, decodeSrc8 p code (ext &&& 0xFF) = .ok l) ↔ code.val ≠ 28 ∧ code.val ≠ 30) ∧
    ((∃ l, decodeLoc16 code ext = .ok l) ↔ code.val ∉ [0, 7, 15, 23, 28, 30]) ∧
    ((∃ l, decodeSrc16 code ext = .ok l) ↔ code.val ≠ 28 ∧ code.val ≠ 30) ∧
    ((∃ m, decodeM24 code ext = .ok m) ↔ code.val ∈ [2, 4, 6, 8, 10, 12, 14, 16, 18, 20, 22, 24, 26])

/-- R110: the condition codes 0 to 14 and when each is true. -/
def Obligations.ConditionTable : Prop :=
  ∀ f : Flags,
    f.cond (decodeCond 0) = (f.s != f.v) ∧ f.cond (decodeCond 1) = (f.s == f.v) ∧
    f.cond (decodeCond 2) = (f.s != f.v || f.z) ∧ f.cond (decodeCond 3) = (f.s == f.v && !f.z) ∧
    f.cond (decodeCond 4) = (f.c || f.z) ∧ f.cond (decodeCond 5) = (!f.c && !f.z) ∧
    f.cond (decodeCond 6) = f.z ∧ f.cond (decodeCond 7) = !f.z ∧
    f.cond (decodeCond 8) = f.s ∧ f.cond (decodeCond 9) = !f.s ∧
    f.cond (decodeCond 10) = f.v ∧ f.cond (decodeCond 11) = !f.v ∧
    f.cond (decodeCond 12) = f.c ∧ f.cond (decodeCond 13) = !f.c ∧ f.cond (decodeCond 14) = true

/-! ## Steps, exceptions and run states -/

/-- R16, R28, R338: at a quiet boundary a running core executes the instruction at K:PC, with PC moved past its words.
-/
def Obligations.StepRunsDecoded : Prop :=
  ∀ (s : State) (i : Instr), s.run = .running → QuietBoundary s → s.fetchAt s.pc = .ok i →
    step s = exec i (s.inputTaken.setPc (s.pc + BitVec.ofNat 16 (2 * (1 + (i.ext s.params).length))))

/-- R121, R335: an illegal encoding stops the step with its address and word, or, with `ILLEGAL_MODE = trap`, enters
$FF0010 with the address of the illegal word in the frame (the two readings are decision D10; log 11). F stays, but
for I under `IRQ_CLEARS_I`, false by default (R334, decision D14; logs 18, 36). -/
def Obligations.IllegalEncodingRaises : Prop :=
  ∀ (s : State) (e : DecodeError), s.run = .running → QuietBoundary s → s.fetchAt s.pc = .error e →
    (s.illegalMode = .fault → step s = .fault (.illegalInstruction (s.k ++ s.pc) (s.fetchWord s.pc))) ∧
    (s.illegalMode = .trap → ∃ t, step s = .next t ∧ t.pc = 0x0010 ∧ FarFrame s t s.pc ∧
      t = { s.inputTaken with
        k := 0xFF, pcHi := t.pcHi, spHi := t.spHi, mem := t.mem,
        f := if s.params.irqClearsI then { s.f with i := false } else s.f })

/-- R334, R338, R341: NMI entry, from running or halted, over every maskable request (the entry frame is the spec's
inference, decision D14; log 18). F stays, but for I under `IRQ_CLEARS_I`, false by default (log 36). -/
def Obligations.NmiEntry : Prop :=
  ∀ s : State, s.run ≠ .stopped → s.input.reset = none → s.input.nmi = true →
    ∃ t, step s = .next t ∧ t.pc = 0x0008 ∧ FarFrame s t s.pc ∧
      t = { s.inputTaken with
        k := 0xFF, pcHi := t.pcHi, spHi := t.spHi, mem := t.mem, run := .running,
        f := if s.params.irqClearsI then { s.f with i := false } else s.f }

/-- R338, R339, R340: a boundary accepts no maskable interrupt exactly when F.I = 0 or none is both enabled in E and
pending. With F.I set and no NMI, the interrupt that is enabled and pending and comes first in the order
`IRQ_PRIORITY` is entered at its handler, and its bit of E is cleared, no other; by default the lowest number comes
first. (Decisions D14, D15; logs 10, 18, 36.) -/
def Obligations.MaskableEntry : Prop :=
  (∀ (s : State) (pending : Byte), s.accepted pending = none ↔
     s.f.i = false ∨ ∀ n : Fin 8, (s.e.getLsbD n && pending.getLsbD n) = false) ∧
  (∀ p : Params, p.irqFirst = [] → ∀ m n : Fin 8, p.irqOrder.idxOf m < p.irqOrder.idxOf n ↔ m < n) ∧
  ∀ (s : State) (n : Fin 8), s.run ≠ .stopped → s.input.reset = none → s.input.nmi = false → s.f.i = true →
    s.e.getLsbD n = true → s.input.pending.getLsbD n = true →
    (∀ m : Fin 8, s.params.irqOrder.idxOf m < s.params.irqOrder.idxOf n →
      (s.e.getLsbD m && s.input.pending.getLsbD m) = false) →
    ∃ t, step s = .next t ∧ t.pc.toNat = 0x4000 + 8 * s.handlers[n].toNat ∧ FarFrame s t s.pc ∧
      (∀ m : Fin 8, t.e.getLsbD m = (s.e.getLsbD m && decide (m ≠ n))) ∧
      t = { s.inputTaken with
        k := 0xFF, pcHi := t.pcHi, spHi := t.spHi, mem := t.mem, run := .running, e := t.e,
        f := if s.params.irqClearsI then { s.f with i := false } else s.f }

/-- R142, R143, R346: HALT and STOP only change `run`; a halted core stays until something is accepted; a stopped core
takes nothing but a wake-up, not even NMI (decision D16; log 19). -/
def Obligations.HaltAndStop : Prop :=
  (∀ s : State, exec .halt s = .next { s with run := .halted }) ∧
  (∀ s : State, exec .stop s = .next { s with run := .stopped }) ∧
  (∀ s : State, s.run = .halted → QuietBoundary s → step s = .next s.inputTaken) ∧
  (∀ s : State, s.run = .stopped → s.input.reset = none →
    step s = .next { s.inputTaken with run := if s.input.wakeup then .running else .stopped })

/-- R332, R339: the external reset is taken in any run state and at any time, over NMI and every request: K, PC and
`run` are as after reset, F.I and E are the parameters `RESET_I` and `RESET_E` (0 and $00 by default), the parameters
stay (decision D17; logs 20, 36). The step in progress is abandoned: of it only the port accesses are left that it made
before the reset, whether it would have ended or stopped: none at the boundary (n = 0), in an entry, in a core that
does not run or in a step that stops without any, and part of those of an instruction or of the repetitions of REPI imm
(log 6). -/
def Obligations.ExternalReset : Prop :=
  ∀ (s : State) (n : Nat), s.input.reset = some n →
    ∃ t, step s = .next t ∧ t.k = 0xFF ∧ t.pc = 0x0000 ∧ t.run = .running ∧ t.f.i = s.params.resetI ∧
      t.e = s.params.resetE ∧ t.inputs = s.inputs.tail ∧ t.handlers = s.handlers ∧
      t.illegalMode = s.illegalMode ∧ t.params = s.params ∧
      (s.run ≠ .running ∨ s.input.nmi = true ∨ s.accepted s.input.pending ≠ none ∨
        (∃ e, s.fetchAt s.pc = .error e) → AbandonedAfter n s s t) ∧
      ∀ i, s.run = .running → s.input.nmi = false → s.accepted s.input.pending = none → s.fetchAt s.pc = .ok i →
        let p := s.inputTaken.setPc (s.pc + BitVec.ofNat 16 i.byteLength)
        (∀ u, exec i p = .next u → AbandonedAfter n s u t) ∧
        ((∀ u, exec i p ≠ .next u) → (∀ field j, i = .repiImm field → p.fetchAt p.pc = .ok j → repeatable j = false) →
          AbandonedAfter n s s t) ∧
        ∀ field j, i = .repiImm field → p.fetchAt p.pc = .ok j → repeatable j = true →
          ∃ u, RepetitionsEnd j (p.codeBytes p.pc j.byteLength) (field.toNat + 2)
              (p.setPc (p.pc + BitVec.ofNat 16 j.byteLength)) u ∧ AbandonedAfter n s u t

/-- The memory after reset is in its canonical form. -/
def Obligations.ResetMemoryCanonical : Prop := MemoryCanonical State.reset

/-- Every step keeps memory in its canonical form: an instruction, an entry, a reset, a repetition. -/
def Obligations.StepKeepsMemoryCanonical : Prop :=
  ∀ s t : State, MemoryCanonical s → step s = .next t → MemoryCanonical t

/-! ## Rules over all instructions -/

/-- R80, R84, R85: an instruction stores to its memory destination, the words it pushes and the Z register it steps,
and to no other byte. (REPI stores what its target stores.) -/
def Obligations.StoresOnlyThere : Prop :=
  ∀ (i : Instr) (s t : State), ¬ IsRepi i → exec i s = .next t → MemoryKept (s.stores i) s t

/-- R8, R25, R29, R30, R41, R62, R142, R143: which instructions change K, E, the shadow registers, the run state and
the I/O log; none changes the parameters or takes a boundary input (logs 7, 8, 10, 11, 36). -/
def Obligations.SystemStateWriters : Prop :=
  ∀ (i : Instr) (s t : State), ¬ IsRepi i → exec i s = .next t →
    (t.k ≠ s.k → (∃ c a, i = .jpd c a) ∨ (∃ a, i = .calld a) ∨ (∃ c m, i = .jpfMem c m) ∨ (∃ m, i = .callfMem m) ∨
      (∃ c b a, i = .jpfAbs c b a) ∨ (∃ b a, i = .callfAbs b a) ∨ (∃ n, i = .rst n) ∨ (∃ c, i = .retf c) ∨
      ∃ n, i = .reti n) ∧
    (t.e ≠ s.e → (∃ m, i = .ei m) ∨ (∃ m, i = .di m) ∨ (∃ l, i = .ldE l) ∨ ∃ n, i = .reti n) ∧
    (t.shadow ≠ s.shadow ∨ t.fShadow ≠ s.fShadow → (∃ l, i = .exs l) ∨ i = .popAll) ∧
    (t.run ≠ s.run → i = .halt ∨ i = .stop) ∧
    (t.ioLog ≠ s.ioLog →
      (∃ d, i = .ldFromPort d ∨ i = .ldFromPortInc d ∨ i = .ldFromPortDec d) ∨
      (∃ l, i = .ldPort l ∨ i = .ldPortInc l ∨ i = .ldPortDec l) ∨
      (∃ b, i = .bitImmPort b ∨ i = .resImmPort b ∨ i = .setImmPort b) ∨
      ∃ r, i = .bitAccPort r ∨ i = .resAccPort r ∨ i = .setAccPort r) ∧
    t.handlers = s.handlers ∧ t.illegalMode = s.illegalMode ∧ t.params = s.params ∧ t.inputs = s.inputs

/-- R34, R38: the I flag is written only by LD F, POP F, RETF, RETI, POP ALL, RESF and SETF; the D flag by those, EXS,
SDS and LDPCA. -/
def Obligations.InterruptAndSegmentFlagWriters : Prop :=
  ∀ (i : Instr) (s t : State), ¬ IsRepi i → exec i s = .next t →
    let writesF := (∃ l, i = .ldF l) ∨ i = .popF ∨ (∃ c, i = .retf c) ∨ (∃ n, i = .reti n) ∨ i = .popAll ∨
      (∃ m, i = .resf m) ∨ ∃ m, i = .setf m
    (t.f.i ≠ s.f.i → writesF) ∧ (t.f.d ≠ s.f.d → writesF ∨ (∃ l, i = .exs l) ∨ i = .sds ∨ ∃ d v, i = .ldpca d v)

/-! ## Operands and the stack -/

/-- R42, R66, R69 to R73, R75, R76: the linear address of byte k, for the three bytes an access can reach, of every RM
and every ZM memory mode: base plus (offset + k modulo 2^16); `Zn` is the word at $000000 + 2n. A sum above $FFFFFF is
truncated to 24 bits, or, under `LINEAR_WRAP` = `stayInBank`, keeps bank $FF, where its base lies (the model's other
value; log 37). That truncation is the default (D2), that imm and uimm5 are not scaled (D24), that [$01xxxx] lies in
bank $01 (conflict C1) and that byte 2 of a 24-bit read wraps in the segment (D31) are the spec's own choices
(log 24). -/
def Obligations.OperandAddresses : Prop :=
  (∀ ea : Ea, ea.addr = ea.byte 0) ∧
  (∀ (s : State) (v : Word) (k : Fin 3),
     let seg : Addr := if s.f.d then (s.regs.d.zeroExtend 24) <<< 16 else ((s.reg16 .ds).zeroExtend 24) <<< 8
     let at0 (off : Word) : Addr := (off + BitVec.ofNat 16 k).zeroExtend 24
     let atS (off : Word) : Addr :=
       let sum := seg.toNat + (off + BitVec.ofNat 16 k).toNat
       BitVec.ofNat 24 (if s.params.linearWrap = .stayInBank ∧ 2 ^ 24 ≤ sum then 0xFF0000 + sum % 65536 else sum)
     let ea (m : Mem) : Addr := (s.memEa m).byte k
     (∀ dir, ea (.auto .bank0 .hl dir) = at0 (s.reg16 .hl) ∧ ea (.auto .ds .hl dir) = atS (s.reg16 .hl) ∧
       ea (.auto .bank0 .ix dir) = at0 (s.reg16 .ix) ∧ ea (.auto .ds .ix dir) = atS (s.reg16 .ix)) ∧
     ea (.plain (.ab .bank0)) = at0 (s.reg16 .ab) ∧ ea (.plain (.ab .ds)) = atS (s.reg16 .ab) ∧
     ea (.plain (.hl .bank0)) = at0 (s.reg16 .hl) ∧ ea (.plain (.hl .ds)) = atS (s.reg16 .hl) ∧
     ea (.plain (.ix .bank0)) = at0 (s.reg16 .ix) ∧ ea (.plain (.ix .ds)) = atS (s.reg16 .ix) ∧
     ea (.plain .dsPair) = at0 (s.reg16 .ds) ∧
     ea (.plain (.direct0 v)) = at0 v ∧ ea (.plain (.direct1 v)) = 0x010000 + at0 v ∧
     ea (.plain (.directDs v)) = atS v ∧
     ea (.plain (.ixDisp .bank0 v)) = at0 (s.reg16 .ix + v) ∧ ea (.plain (.ixDisp .ds v)) = atS (s.reg16 .ix + v) ∧
     ea (.plain (.spDisp v)) = at0 (s.sp + v)) ∧
  (∀ (s : State) (n : BitVec 4) (u : BitVec 5) (k : Fin 3),
     let seg : Addr := if s.f.d then (s.regs.d.zeroExtend 24) <<< 16 else ((s.reg16 .ds).zeroExtend 24) <<< 8
     let at0 (off : Word) : Addr := (off + BitVec.ofNat 16 k).zeroExtend 24
     let atS (off : Word) : Addr :=
       let sum := seg.toNat + (off + BitVec.ofNat 16 k).toNat
       BitVec.ofNat 24 (if s.params.linearWrap = .stayInBank ∧ 2 ^ 24 ≤ sum then 0xFF0000 + sum % 65536 else sum)
     let zlow : Addr := (n.zeroExtend 24) <<< 1
     let z : Word := s.readByte (zlow + 1) ++ s.readByte zlow
     let ea (m : Zm) : Addr := (s.zmEa m).byte k
     (∀ dir, ea (.auto .bank0 n dir) = at0 z ∧ ea (.auto .ds n dir) = atS z) ∧
     ea (.plusIx .bank0 n) = at0 (z + s.reg16 .ix) ∧ ea (.plusIx .ds n) = atS (z + s.reg16 .ix) ∧
     ea (.ptr .bank0 n) = at0 z ∧ ea (.ptr .ds n) = atS z ∧
     ea (.ixDisp .bank0 u) = at0 (s.reg16 .ix + u.zeroExtend 16) ∧
     ea (.ixDisp .ds u) = atS (s.reg16 .ix + u.zeroExtend 16) ∧
     ea (.spDisp u) = at0 (s.sp + u.zeroExtend 16) ∧ ea (.low n) = zlow + BitVec.ofNat 24 k ∧
     ea (.high n) = zlow + 1 + BitVec.ofNat 24 k)

/-- R21, R24, R26: pairs and pseudo-registers are views of the 8-bit registers, a pair write writes both halves, a write
of SP drops bit 0 (decision D1; log 23) or, under `ODD_WRITE` = `keep`, is ignored when the value is odd (the model's
other value; log 37). -/
def Obligations.RegisterViews : Prop :=
  ∀ (s : State) (v : Word),
    s.reg16 .ab = s.regs.a ++ s.regs.b ∧ s.reg16 .hl = s.regs.h ++ s.regs.l ∧ s.reg16 .ix = s.regs.i ++ s.regs.x ∧
    s.reg16 .ds = s.regs.d ++ s.regs.s ∧
    (s.pseudo .asx).toInt = s.regs.a.toInt ∧ (s.pseudo .bsx).toInt = s.regs.b.toInt ∧
    (s.pseudo .azx).toNat = s.regs.a.toNat ∧
    (∀ r, r ≠ Reg16.sp → (s.setReg16 r v).reg16 r = v ∧ ∀ q, q ≠ r → (s.setReg16 r v).reg16 q = s.reg16 q) ∧
    (s.setReg16 .sp v).sp = (if s.params.oddWrite = .keep ∧ v.getLsbD 0 = true then s.sp else v &&& 0xFFFE) ∧
    (s.setReg16 .sp v).regs = s.regs

/-! ## Flags of an addition, a subtraction and a logic operation -/

/-- R203, R289: `add`, `sub` and `logic` at 8 and 16 bits: the result modulo the width, C the unsigned carry or
borrow, V the signed sum leaving its range, H the carry or borrow of the low nibble, in a word of the bits up to
`H16_BIT` (11 by default: the low 12 bits; decision D8; H itself is general knowledge G1; log 16); for logic, V is 1
exactly when the number of 1 bits is even, in a word among the low `PARITY_WIDTH` bits (all 16 by default: decision
D7; log 27). -/
def Obligations.FlagFunctions : Prop :=
  ∀ p : Params, let hm := 2 ^ (p.h16Bit.val + 1)
  ((∀ (x y : Byte) (c : Bool), let o := addFlags p x y c
     o.res = x + y + BitVec.ofNat 8 c.toNat ∧ o.s = decide (o.res.toInt < 0) ∧ o.z = decide (o.res = 0) ∧
     o.c = decide (255 < x.toNat + y.toNat + c.toNat) ∧
     o.v = decide (x.toInt + y.toInt + c.toNat < -128 ∨ 127 < x.toInt + y.toInt + c.toNat) ∧
     o.h = decide (15 < x.toNat % 16 + y.toNat % 16 + c.toNat)) ∧
   (∀ (x y : Byte) (c : Bool), let o := subFlags p x y c
     o.res = x - y - BitVec.ofNat 8 c.toNat ∧ o.s = decide (o.res.toInt < 0) ∧ o.z = decide (o.res = 0) ∧
     o.c = decide (x.toNat < y.toNat + c.toNat) ∧
     o.v = decide (x.toInt - y.toInt - c.toNat < -128 ∨ 127 < x.toInt - y.toInt - c.toNat) ∧
     o.h = decide (x.toNat % 16 < y.toNat % 16 + c.toNat)) ∧
   (∀ (x y : Word) (c : Bool), let o := addFlags p x y c
     o.res = x + y + BitVec.ofNat 16 c.toNat ∧ o.s = decide (o.res.toInt < 0) ∧ o.z = decide (o.res = 0) ∧
     o.c = decide (65535 < x.toNat + y.toNat + c.toNat) ∧
     o.v = decide (x.toInt + y.toInt + c.toNat < -32768 ∨ 32767 < x.toInt + y.toInt + c.toNat) ∧
     o.h = decide (hm ≤ x.toNat % hm + y.toNat % hm + c.toNat)) ∧
   (∀ (x y : Word) (c : Bool), let o := subFlags p x y c
     o.res = x - y - BitVec.ofNat 16 c.toNat ∧ o.s = decide (o.res.toInt < 0) ∧ o.z = decide (o.res = 0) ∧
     o.c = decide (x.toNat < y.toNat + c.toNat) ∧
     o.v = decide (x.toInt - y.toInt - c.toNat < -32768 ∨ 32767 < x.toInt - y.toInt - c.toNat) ∧
     o.h = decide (x.toNat % hm < y.toNat % hm + c.toNat))) ∧
  ((∀ r : Byte, let o := logicFlags p r
     o.res = r ∧ o.s = decide (r.toInt < 0) ∧ o.z = decide (r = 0) ∧
     o.v = decide (((List.range 8).filter (fun n => r.getLsbD n)).length % 2 = 0)) ∧
   (∀ r : Word, let o := logicFlags p r
     o.res = r ∧ o.s = decide (r.toInt < 0) ∧ o.z = decide (r = 0) ∧
     o.v = decide (((List.range p.parityWidth).filter (fun n => r.getLsbD n)).length % 2 = 0)))

/-- R110, R288: after a comparison of x with y the conditions say how x and y compare, signed and unsigned, at both
widths. -/
def Obligations.CompareThenCondition : Prop :=
  (∀ (p : Params) (f : Flags) (x y : Byte), let g := AluOp.cp.putFlags f (AluOp.cp.eval p x y f.c)
    g.cond .z = decide (x = y) ∧ g.cond .c = decide (x.toNat < y.toNat) ∧ g.cond .nc = decide (y.toNat ≤ x.toNat) ∧
    g.cond .ule = decide (x.toNat ≤ y.toNat) ∧ g.cond .ugt = decide (y.toNat < x.toNat) ∧
    g.cond .lt = decide (x.toInt < y.toInt) ∧ g.cond .ge = decide (y.toInt ≤ x.toInt) ∧
    g.cond .le = decide (x.toInt ≤ y.toInt) ∧ g.cond .gt = decide (y.toInt < x.toInt)) ∧
  (∀ (p : Params) (f : Flags) (x y : Word), let g := AluOp.cp.putFlags f (AluOp.cp.eval p x y f.c)
    g.cond .z = decide (x = y) ∧ g.cond .c = decide (x.toNat < y.toNat) ∧ g.cond .nc = decide (y.toNat ≤ x.toNat) ∧
    g.cond .ule = decide (x.toNat ≤ y.toNat) ∧ g.cond .ugt = decide (y.toNat < x.toNat) ∧
    g.cond .lt = decide (x.toInt < y.toInt) ∧ g.cond .ge = decide (y.toInt ≤ x.toInt) ∧
    g.cond .le = decide (x.toInt ≤ y.toInt) ∧ g.cond .gt = decide (y.toInt < x.toInt))

/-! ## System instructions -/

/-- R140, R144, R145, R148, R149: the words and the whole effect of NOP ($0000: nothing), CCF ($1008: complements C
alone), SDS ($100C: copies K to D and sets the D flag), SAO and SAU ($1005, $100D: move D by one, modulo 256, when the
A flag is set; A itself stays); a running core at a quiet boundary goes on at PC + 2. -/
def Obligations.ImplicitInstructions : Prop :=
  (∀ s : State, exec .nop s = .next s ∧
    exec .ccf s = .next { s with f := { s.f with c := !s.f.c } } ∧
    exec .sds s = .next { s with regs := { s.regs with d := s.k }, f := { s.f with d := true } } ∧
    exec .sao s = .next (if s.f.a then { s with regs := { s.regs with d := s.regs.d + 1 } } else s) ∧
    exec .sau s = .next (if s.f.a then { s with regs := { s.regs with d := s.regs.d - 1 } } else s)) ∧
  ∀ p ∈ [((0x0000 : Word), Instr.nop), (0x1008, .ccf), (0x100C, .sds), (0x1005, .sao), (0x100D, .sau)], ∀ s : State,
    s.run = .running → QuietBoundary s → s.fetchWord s.pc = p.1 → step s = exec p.2 (s.inputTaken.setPc (s.pc + 2))

/-- R153 to R156: RESF, SETF ($1400, $1600 with the mask) clear and set the masked flags, every one; DI, EI ($1500,
$1700) the masked bits of E; nothing else changes; a running core at a quiet boundary goes on at PC + 2. -/
def Obligations.MaskInstructions : Prop :=
  ∀ (m : Byte) (s : State),
    (∃ t, exec (.resf m) s = .next t ∧ t.f.toByte = s.f.toByte &&& ~~~m ∧ t = { s with f := t.f }) ∧
    (∃ t, exec (.setf m) s = .next t ∧ t.f.toByte = s.f.toByte ||| m ∧ t = { s with f := t.f }) ∧
    exec (.di m) s = .next { s with e := s.e &&& ~~~m } ∧ exec (.ei m) s = .next { s with e := s.e ||| m } ∧
    ∀ p ∈ [((0x1400 : Word), Instr.resf m), (0x1600, .setf m), (0x1500, .di m), (0x1700, .ei m)],
      s.run = .running → QuietBoundary s → s.fetchWord s.pc = (p.1 ||| m.zeroExtend 16) →
      step s = exec p.2 (s.inputTaken.setPc (s.pc + 2))

/-- R141: EXS (`00000F0CDSIXHLAB`, list not empty) exchanges exactly the listed registers with their shadows, I stays
out of the exchange of F, and the same EXS twice restores everything. -/
def Obligations.ExsExchanges : Prop :=
  (∀ (w : Word) (s : State), w &&& 0xFA00 = 0 → w ≠ 0 → s.run = .running → QuietBoundary s → s.fetchWord s.pc = w →
    step s = exec (.exs ⟨w.getLsbD 10, w.getLsbD 8, w.getLsbD 7, w.getLsbD 6, w.getLsbD 5, w.getLsbD 4, w.getLsbD 3,
      w.getLsbD 2, w.getLsbD 1, w.getLsbD 0⟩) (s.inputTaken.setPc (s.pc + 2))) ∧
  ∀ (l : RegList) (s : State),
    let sel (b : Bool) (x y : Byte) : Byte := if b then y else x
    let r := s.regs
    let r' := s.shadow
    let t : State := { s with
      regs := ⟨sel l.a r.a r'.a, sel l.b r.b r'.b, sel l.h r.h r'.h, sel l.l r.l r'.l, sel l.i r.i r'.i,
        sel l.x r.x r'.x, sel l.d r.d r'.d, sel l.s r.s r'.s, sel l.c r.c r'.c⟩
      shadow := ⟨sel l.a r'.a r.a, sel l.b r'.b r.b, sel l.h r'.h r.h, sel l.l r'.l r.l, sel l.i r'.i r.i,
        sel l.x r'.x r.x, sel l.d r'.d r.d, sel l.s r'.s r.s, sel l.c r'.c r.c⟩
      f := if l.f then ⟨s.fShadow.s, s.fShadow.z, s.f.i, s.fShadow.h, s.fShadow.a, s.fShadow.v, s.fShadow.d,
        s.fShadow.c⟩ else s.f
      fShadow := if l.f then ⟨s.f.s, s.f.z, s.f.h, s.f.a, s.f.v, s.f.d, s.f.c⟩ else s.fShadow }
    exec (.exs l) s = .next t ∧ exec (.exs l) t = .next s

/-- R146, R147: DAA and DAS write A, Z and C by the parameters `calculateDAA` and `calculateDAS`, and nothing else. By
default the adjustment is the customary one of the rules' pseudocode, which the spec marks as general knowledge
(decision D32; logs 15, 36); a table gives its own value at 4A + 2H + C. -/
def Obligations.DecimalAdjust : Prop :=
  ∀ s : State,
    let lo := decide (9 < s.regs.a.toNat % 16) || s.f.h
    let hi := decide (0x99 < s.regs.a.toNat) || s.f.c
    let d : Byte := (if lo then 0x06 else 0x00) + (if hi then 0x60 else 0x00)
    let index := 4 * s.regs.a.toNat + 2 * s.f.h.toNat + s.f.c.toNat
    let ends (i : Instr) (a : Byte) (c : Bool) : Prop := exec i s = .next { s with
      regs := { s.regs with a := a }, f := { s.f with z := decide (a = 0), c := c } }
    (s.params.daa = .customary → ends .daa (s.regs.a + d) hi) ∧
    (s.params.das = .customary → ends .das (s.regs.a - d) hi) ∧
    ∀ (values : Vector (Byte × Bool) 1024) (r : Byte × Bool), values[index]? = some r →
      (s.params.daa = .table values → ends .daa r.1 r.2) ∧ (s.params.das = .table values → ends .das r.1 r.2)

/-! ## Effective addresses, multiplication and division -/

/-- R170, R171, R172: LDPCA, LDIXA, LDSPA into any even 16-bit destination. LDPCA writes D after its destination
(decision D37; log 26). -/
def Obligations.EffectiveAddressLoads : Prop :=
  ∀ (dst : Loc16) (v : Word) (s : State), EvenMem s dst.memory →
    (∃ t, exec (.ldpca dst v) s = .next t ∧ DataOnly s t ∧
      RegsAre t 2 none dst.memory ((s.withReg16 dst (s.pc + v)).setReg8 .d s.k) ∧
      Stored16 s t dst.memory (s.pc + v) ∧ FlagsBesidesA t false { s.f with d := true } ∧
      FlagAIs t 2 none dst.memory ((s.withReg16 dst (s.pc + v)).setReg8 .d s.k) s.f.a none) ∧
    Ends16 (.ldixa dst v) s none dst (s.reg16 .ix + v) false
      (some (decide ((s.reg16 .ix).toNat + v.toInt < 0 ∨ 65535 < (s.reg16 .ix).toNat + v.toInt))) s.f ∧
    Ends16 (.ldspa dst v) s none dst (s.sp + v) false none s.f

/-- R180, R181: MULU and MULSW from any source, with S, Z and V (S and Z from the whole product: decision D21; log
27). -/
def Obligations.Multiplications : Prop :=
  (∀ (src : Src8) (s : State),
    let p : Word := s.regs.a.zeroExtend 16 * (s.readSrc8 src).zeroExtend 16
    EndsReading (.mulu src) s 1 src.memory none (s.setReg16 .ab p) none
      { s.f with s := p.msb, z := decide (p = 0), v := false }) ∧
  (∀ (src : Src16) (s : State), EvenMem s src.memory →
    let p : BitVec 32 := (s.reg16 .ab).signExtend 32 * (s.readSrc16 src).signExtend 32
    EndsReading (.mulsw src) s 2 src.memory none ((s.setReg16 .ab (p.extractLsb' 16 16)).setReg16 .hl (p.extractLsb' 0 16))
      none { s.f with s := p.msb, z := decide (p = 0), v := false })

/-- R182: DIVU. A zero divisor sets Z and leaves every register; a quotient above $FF (exactly when A ≥ the divisor)
sets V and leaves A and B unspecified; else B is the quotient and A the remainder. S and V, or S, are unspecified
where the rule says so (decision D20; logs 9, 17). -/
def Obligations.UnsignedDivision : Prop :=
  ∀ (src : Src8) (s : State),
    let d := s.readSrc8 src
    let n := (s.reg16 .ab).toNat
    ∃ t, exec (.divu src) s = .next t ∧ DataOnly s t ∧ MemoryKept [] s t ∧
      t.f = { s.f with s := t.f.s, z := decide (d = 0), v := t.f.v, a := t.f.a } ∧
      (d = 0 → RegsAre t 1 src.memory none s ∧ FlagAIs t 1 src.memory none s s.f.a none) ∧
      (d ≠ 0 → d ≤ s.regs.a → t.f.v = true ∧ ∃ x y : Byte, let u := (s.setReg8 .a x).setReg8 .b y
        RegsAre t 1 src.memory none u ∧ FlagAIs t 1 src.memory none u s.f.a none) ∧
      (s.regs.a < d → t.f.v = false ∧ t.f.s = decide (128 ≤ n / d.toNat) ∧
        let u := (s.setReg8 .a (BitVec.ofNat 8 (n % d.toNat))).setReg8 .b (BitVec.ofNat 8 (n / d.toNat))
        RegsAre t 1 src.memory none u ∧ FlagAIs t 1 src.memory none u s.f.a none)

/-- R183: DIVSW. A zero divisor sets Z and leaves every register; a quotient outside the signed 16-bit range sets V
and leaves AB and HL unspecified; else HL is the quotient, rounded as `DIVS_ROUNDING` says, and AB the remainder that
goes with it. By default the rounding is toward zero (the spec's general knowledge G4, decision D20; logs 9, 17, 36).
-/
def Obligations.SignedDivision : Prop :=
  ∀ (src : Src16) (s : State), EvenMem s src.memory →
    let w := s.readSrc16 src
    let d := w.toInt
    let n : Int := (s.reg16 .ab ++ s.reg16 .hl).toInt
    let q := match s.params.divsRounding with
      | .truncate => n.tdiv d
      | .floor => n.fdiv d
      | .euclid => n.ediv d
    let m := match s.params.divsRounding with
      | .truncate => n.tmod d
      | .floor => n.fmod d
      | .euclid => n.emod d
    let fits := -32768 ≤ q ∧ q ≤ 32767
    ∃ t, exec (.divsw src) s = .next t ∧ DataOnly s t ∧ MemoryKept [] s t ∧
      t.f = { s.f with s := t.f.s, z := decide (w = 0), v := t.f.v, a := t.f.a } ∧
      (w = 0 → RegsAre t 2 src.memory none s ∧ FlagAIs t 2 src.memory none s s.f.a none) ∧
      (w ≠ 0 → ¬ fits → t.f.v = true ∧ ∃ x y : Word, let u := (s.setReg16 .ab x).setReg16 .hl y
        RegsAre t 2 src.memory none u ∧ FlagAIs t 2 src.memory none u s.f.a none) ∧
      (w ≠ 0 → fits → t.f.v = false ∧ t.f.s = decide (q < 0) ∧
        let u := (s.setReg16 .hl (BitVec.ofInt 16 q)).setReg16 .ab (BitVec.ofInt 16 m)
        RegsAre t 2 src.memory none u ∧ FlagAIs t 2 src.memory none u s.f.a none)

/-! ## Single-operand arithmetic, shifts and bits -/

/-- R191, R192: INC and DEC of any byte destination by 1 to 8: S, Z, H and V as the rules say, C unchanged (H is the
spec's general knowledge G1; log 16). -/
def Obligations.IncDecByte : Prop :=
  ∀ (k : BitVec 3) (dst : Loc8) (s : State),
    let d := s.readLoc8 dst
    let n := k.toNat + 1
    let up := d + BitVec.ofNat 8 n
    let dn := d - BitVec.ofNat 8 n
    Ends8 (.inc k dst) s none dst up false none
      { s.f with s := up.msb, z := decide (up = 0), h := decide (15 < d.toNat % 16 + n), v := !d.msb && up.msb } ∧
    Ends8 (.dec k dst) s none dst dn false none
      { s.f with s := dn.msb, z := decide (dn = 0), h := decide (d.toNat % 16 < n), v := d.msb && !dn.msb }

/-- R193, R194: INCW and DECW by 1 to 8: a register (SP included, its bit 0 dropped unless `ODD_WRITE` is `keep`; log 37)
changes no flag but A, the carry or borrow out of bit 15; an even memory word changes S, Z, H and V (the split is
decision D29, H at bit `H16_BIT`, 11 by default, decision D8; logs 16, 27). -/
def Obligations.IncDecWord : Prop :=
  ∀ (k : BitVec 3) (s : State), let n := k.toNat + 1
    let hm := 2 ^ (s.params.h16Bit.val + 1)
    (∀ r : Reg16, let d := s.reg16 r
      Ends16 (.incw k (.reg r)) s none (.reg r) (d + BitVec.ofNat 16 n) false (some (decide (65535 < d.toNat + n))) s.f ∧
      Ends16 (.decw k (.reg r)) s none (.reg r) (d - BitVec.ofNat 16 n) false (some (decide (d.toNat < n))) s.f) ∧
    (∀ m : Mem, EvenMem s (some m) →
      let d := s.read16 (s.memEa m)
      let up := d + BitVec.ofNat 16 n
      let dn := d - BitVec.ofNat 16 n
      Ends16 (.incw k (.mem m)) s none (.mem m) up false none
        { s.f with s := up.msb, z := decide (up = 0), h := decide (hm ≤ d.toNat % hm + n % hm), v := !d.msb && up.msb } ∧
      Ends16 (.decw k (.mem m)) s none (.mem m) dn false none
        { s.f with s := dn.msb, z := decide (dn = 0), h := decide (d.toNat % hm < n % hm), v := d.msb && !dn.msb })

/-- R195, R197, R199, R201: NEG, CPL, NGC and CLR of any byte destination, with every flag (H: log 16). -/
def Obligations.NegCplNgcClrByte : Prop :=
  ∀ (dst : Loc8) (s : State),
    let d := s.readLoc8 dst
    let c := s.f.c.toNat
    let g := -d - BitVec.ofNat 8 c
    Ends8 (.neg dst) s none dst (-d) false (some (decide (d ≠ 0)))
      { s.f with s := (-d).msb, z := decide (d = 0), h := decide (d.toNat % 16 ≠ 0), v := decide (d = 0x80),
                 c := decide (d ≠ 0) } ∧
    Ends8 (.cpl dst) s none dst (~~~d) false none
      { s.f with s := !d.msb, z := decide (d = 0xFF), v := evenOnes 8 (~~~d) } ∧
    Ends8 (.ngc dst) s none dst g false (some (decide (0 < d.toNat + c)))
      { s.f with s := g.msb, z := decide (g = 0), h := decide (0 < d.toNat % 16 + c), v := d.msb && g.msb,
                 c := decide (0 < d.toNat + c) } ∧
    Ends8 (.clr dst) s none dst 0 false none s.f

/-- R196, R198, R200, R202: NEGW, CPLW, NGCW and CLRW of any even word destination, with every flag. H at bit
`H16_BIT`, 11 by default, is decision D8 (log 16); V of CPLW as parity over `PARITY_WIDTH` bits, all 16 by default, is
decision D7 (log 27). -/
def Obligations.NegCplNgcClrWord : Prop :=
  ∀ (dst : Loc16) (s : State), EvenMem s dst.memory →
    let d := s.readLoc16 dst
    let c := s.f.c.toNat
    let g := -d - BitVec.ofNat 16 c
    let hm := 2 ^ (s.params.h16Bit.val + 1)
    Ends16 (.negw dst) s none dst (-d) false (some (decide (d ≠ 0)))
      { s.f with s := (-d).msb, z := decide (d = 0), h := decide (d.toNat % hm ≠ 0), v := decide (d = 0x8000),
                 c := decide (d ≠ 0) } ∧
    Ends16 (.cplw dst) s none dst (~~~d) false none
      { s.f with s := !d.msb, z := decide (d = 0xFFFF), v := evenOnes s.params.parityWidth (~~~d) } ∧
    Ends16 (.ngcw dst) s none dst g false (some (decide (0 < d.toNat + c)))
      { s.f with s := g.msb, z := decide (g = 0), h := decide (0 < d.toNat % hm + c), v := d.msb && g.msb,
                 c := decide (0 < d.toNat + c) } ∧
    Ends16 (.clrw dst) s none dst 0 false none s.f

/-- R211 to R218: the eight byte shifts: the result, C and A the bit shifted out, S and Z of the result, V as the
column says (free for RLC, RRC, RL, RR, SRL; SLA's V is decision D28; logs 9, 27). -/
def Obligations.ByteShifts : Prop :=
  ∀ (dst : Loc8) (s : State),
    let d := s.readLoc8 dst
    let cin : Byte := BitVec.ofNat 8 s.f.c.toNat
    let fl (r : Byte) (out v : Bool) : Flags := { s.f with s := r.msb, z := decide (r = 0), v := v, c := out }
    let rl := d <<< 1 ||| cin
    let rr := d >>> 1 ||| cin <<< 7
    Ends8 (.rlc dst) s none dst (d.rotateLeft 1) true (some d.msb) (fl (d.rotateLeft 1) d.msb false) ∧
    Ends8 (.rrc dst) s none dst (d.rotateRight 1) true (some (d.getLsbD 0)) (fl (d.rotateRight 1) (d.getLsbD 0) false) ∧
    Ends8 (.rl dst) s none dst rl true (some d.msb) (fl rl d.msb false) ∧
    Ends8 (.rr dst) s none dst rr true (some (d.getLsbD 0)) (fl rr (d.getLsbD 0) false) ∧
    Ends8 (.sla dst) s none dst (d <<< 1) false (some d.msb) (fl (d <<< 1) d.msb (d.msb != d.getLsbD 6)) ∧
    Ends8 (.sra dst) s none dst (d.sshiftRight 1) false (some (d.getLsbD 0)) (fl (d.sshiftRight 1) (d.getLsbD 0) false) ∧
    Ends8 (.swap dst) s none dst (d.rotateLeft 4) false none
      { s.f with s := (d.rotateLeft 4).msb, z := decide (d.rotateLeft 4 = 0) } ∧
    Ends8 (.srl dst) s none dst (d >>> 1) true (some (d.getLsbD 0)) (fl (d >>> 1) (d.getLsbD 0) false)

/-- R223 to R230: the eight word shifts of any even destination, bit 15 in the place of bit 7 (decision D28; logs 9,
27). -/
def Obligations.WordShifts : Prop :=
  ∀ (dst : Loc16) (s : State), EvenMem s dst.memory →
    let d := s.readLoc16 dst
    let cin : Word := BitVec.ofNat 16 s.f.c.toNat
    let fl (r : Word) (out v : Bool) : Flags := { s.f with s := r.msb, z := decide (r = 0), v := v, c := out }
    let rl := d <<< 1 ||| cin
    let rr := d >>> 1 ||| cin <<< 15
    Ends16 (.rlcw dst) s none dst (d.rotateLeft 1) true (some d.msb) (fl (d.rotateLeft 1) d.msb false) ∧
    Ends16 (.rrcw dst) s none dst (d.rotateRight 1) true (some (d.getLsbD 0)) (fl (d.rotateRight 1) (d.getLsbD 0) false) ∧
    Ends16 (.rlw dst) s none dst rl true (some d.msb) (fl rl d.msb false) ∧
    Ends16 (.rrw dst) s none dst rr true (some (d.getLsbD 0)) (fl rr (d.getLsbD 0) false) ∧
    Ends16 (.slaw dst) s none dst (d <<< 1) false (some d.msb) (fl (d <<< 1) d.msb (d.msb != d.getLsbD 14)) ∧
    Ends16 (.sraw dst) s none dst (d.sshiftRight 1) false (some (d.getLsbD 0))
      (fl (d.sshiftRight 1) (d.getLsbD 0) false) ∧
    Ends16 (.swapw dst) s none dst (d.rotateLeft 8) false none
      { s.f with s := (d.rotateLeft 8).msb, z := decide (d.rotateLeft 8 = 0) } ∧
    Ends16 (.srlw dst) s none dst (d >>> 1) true (some (d.getLsbD 0)) (fl (d >>> 1) (d.getLsbD 0) false)

/-- R219 to R222: BIT, RES and SET of a register or memory byte: Z is the complement of the bit as it was, RES and SET
write the byte with the bit cleared or set; the bit number is in the word, or the low three bits of A or B. -/
def Obligations.BitInstructions : Prop :=
  ∀ (s : State),
    let low3 (r : Acc8) : BitVec 3 := (s.reg8 (accReg8 r)).extractLsb' 0 3
    let zf (x : Byte) (b : BitVec 3) : Flags := { s.f with z := !x.getLsbD b.toNat }
    (∀ (src : Src8) (b : BitVec 3) (r : Acc8),
      EndsReading (.bitImm b src) s 1 src.memory none s none (zf (s.readSrc8 src) b) ∧
      EndsReading (.bitAcc r src) s 1 src.memory none s none (zf (s.readSrc8 src) (low3 r))) ∧
    (∀ (dst : Loc8) (b : BitVec 3) (r : Acc8), let x := s.readLoc8 dst
      Ends8 (.resImm b dst) s none dst (x &&& ~~~((1 : Byte) <<< b.toNat)) false none (zf x b) ∧
      Ends8 (.setImm b dst) s none dst (x ||| (1 : Byte) <<< b.toNat) false none (zf x b) ∧
      Ends8 (.resAcc r dst) s none dst (x &&& ~~~((1 : Byte) <<< (low3 r).toNat)) false none (zf x (low3 r)) ∧
      Ends8 (.setAcc r dst) s none dst (x ||| (1 : Byte) <<< (low3 r).toNat) false none (zf x (low3 r)))

/-- R67, R219 to R222: BIT, RES and SET of the port in register C: one read, whose answer is the environment's; RES
and SET then one write of the same port; only Z changes beside the ports (log 8). -/
def Obligations.PortBitInstructions : Prop :=
  ∀ (s : State) (b : BitVec 3) (r : Acc8),
    let low3 : BitVec 3 := (s.reg8 (accReg8 r)).extractLsb' 0 3
    let tests (i : Instr) (b : BitVec 3) : Prop := ∃ t x, exec i s = .next t ∧ PortAnswer s x ∧
      t = { s.afterPortRead x with f := { s.f with z := !x.getLsbD b.toNat }, fresh := t.fresh }
    let writes (i : Instr) (b : BitVec 3) (g : Byte → Byte) : Prop := ∃ t x, exec i s = .next t ∧ PortAnswer s x ∧
      t = { s.afterPortRead x with
        f := { s.f with z := !x.getLsbD b.toNat }, fresh := t.fresh,
        ioLog := .write s.regs.c (g x) :: .read s.regs.c x :: s.ioLog }
    tests (.bitImmPort b) b ∧ tests (.bitAccPort r) low3 ∧
    writes (.resImmPort b) b (fun x => x &&& ~~~((1 : Byte) <<< b.toNat)) ∧
    writes (.resAccPort r) low3 (fun x => x &&& ~~~((1 : Byte) <<< low3.toNat)) ∧
    writes (.setImmPort b) b (fun x => x ||| (1 : Byte) <<< b.toNat) ∧
    writes (.setAccPort r) low3 (fun x => x ||| (1 : Byte) <<< low3.toNat)

/-! ## Loads -/

/-- R242, R250, R251: the three immediate loads: `LD r, imm` ($7000), `LD C, imm` ($4000), `ADD C, imm` ($4100, no
flag changes); one register changes, nothing else; a running core at a quiet boundary goes on at PC + 2. -/
def Obligations.ImmediateLoads : Prop :=
  ∀ (v : Byte) (s : State),
    (∀ r, ∃ t, exec (.ldRegImm r v) s = .next t ∧ t = { s with regs := t.regs } ∧ t.reg8 r = v ∧
      (∀ q, q ≠ r → t.reg8 q = s.reg8 q) ∧ t.regs.c = s.regs.c) ∧
    exec (.ldCImm v) s = .next { s with regs := { s.regs with c := v } } ∧
    exec (.addCImm v) s = .next { s with regs := { s.regs with c := s.regs.c + v } } ∧
    ∀ p ∈ [((0x7000 : Word), Instr.ldRegImm .a v), (0x7100, .ldRegImm .h v), (0x7200, .ldRegImm .i v),
        (0x7300, .ldRegImm .d v), (0x7400, .ldRegImm .b v), (0x7500, .ldRegImm .l v), (0x7600, .ldRegImm .x v),
        (0x7700, .ldRegImm .s v), (0x4000, .ldCImm v), (0x4100, .addCImm v)],
      s.run = .running → QuietBoundary s → s.fetchWord s.pc = (p.1 ||| v.zeroExtend 16) →
      step s = exec p.2 (s.inputTaken.setPc (s.pc + 2))

/-- R240, R241, R252: LD moves a byte, LDW a word at even addresses, between any source and any destination, both
addresses from the registers at the start (the spec's own choice D12; log 26), then steps the source's pointer and
then the destination's; of the flags only A can change, to what a "DS:" auto-index makes it: by default its carry (the
spec's own choice D4; log 22), under `A_ON_AUTOINDEX` = `free` any value (log 37). -/
def Obligations.Loads : Prop :=
  (∀ (dst : Loc8) (src : Src8) (s : State), Ends8 (.ld dst src) s src.memory dst (s.readSrc8 src) false none s.f) ∧
  (∀ (dst : Loc16) (src : Src16) (s : State), EvenMem s src.memory → EvenMem s dst.memory →
     Ends16 (.ldw dst src) s src.memory dst (s.readSrc16 src) false none s.f)

/-- R247: the loads from F, C and E, and from the port in C with C stepping by +1, 0 or -1 before the destination's
pointer does (log 8). -/
def Obligations.LoadFromSpecial : Prop :=
  ∀ (dst : Loc8) (s : State),
    let ports (i : Instr) (step : Byte) : Prop := ∃ t x, exec i s = .next t ∧ PortAnswer s x ∧
      DataOnly (s.afterPortRead x) t ∧
      RegsAre t 1 none dst.memory ((s.withReg8 dst x).setC (s.regs.c + step)) ∧ Stored8 s t dst.memory x ∧
      FlagsBesidesA t false s.f ∧ FlagAIs t 1 none dst.memory (s.withReg8 dst x) s.f.a none
    Ends8 (.ldFromF dst) s none dst s.f.toByte false none s.f ∧
    Ends8 (.ldFromC dst) s none dst s.regs.c false none s.f ∧
    Ends8 (.ldFromE dst) s none dst s.e false none s.f ∧
    ports (.ldFromPort dst) 0 ∧ ports (.ldFromPortInc dst) 1 ∧ ports (.ldFromPortDec dst) (-1)

/-- R248, R249: the loads to C, E and F (all eight flags, A free after a "DS:" auto-index), and to the port in C with
C stepping by +1, 0 or -1 after the write (logs 8, 22). -/
def Obligations.LoadToSpecial : Prop :=
  ∀ (src : Src8) (s : State),
    let v := s.readSrc8 src
    let ports (i : Instr) (step : Byte) : Prop := ∃ t, exec i s = .next t ∧
      DataOnly { s with ioLog := .write s.regs.c v :: s.ioLog } t ∧
      RegsAre t 1 src.memory none (s.setC (s.regs.c + step)) ∧ MemoryKept [] s t ∧
      FlagsBesidesA t false s.f ∧ FlagAIs t 1 src.memory none s s.f.a none
    EndsReading (.ldC src) s 1 src.memory none (s.setC v) none s.f ∧
    (∃ t, exec (.ldE src) s = .next t ∧ DataOnly { s with e := v } t ∧ RegsAre t 1 src.memory none s ∧
      MemoryKept [] s t ∧ FlagsBesidesA t false s.f ∧ FlagAIs t 1 src.memory none s s.f.a none) ∧
    EndsReading (.ldF src) s 1 src.memory none s (some (v.getLsbD 3))
      ⟨v.getLsbD 7, v.getLsbD 6, v.getLsbD 5, v.getLsbD 4, v.getLsbD 3, v.getLsbD 2, v.getLsbD 1, v.getLsbD 0⟩ ∧
    ports (.ldPort src) 0 ∧ ports (.ldPortInc src) 1 ∧ ports (.ldPortDec src) (-1)

/-- R243 to R246, R76, R84: the loads and stores of A, B, AB and HL through a ZM operand (an even one for a word): the
value moves, then a stepped Z register, re-read after the access, moves by the operand size; nothing else is stored,
and of the flags only A can change. -/
def Obligations.ZmLoads : Prop :=
  (∀ (z : Zm) (r : Acc8) (s : State),
     (∃ t, exec (.ldZm8 r z) s = .next t ∧ DataOnly s t ∧
       RegsAre t 1 none none (s.setReg8 (accReg8 r) (s.readByte (s.zmEa z).addr)) ∧
       MemoryKept (autoBytes (zmAuto z)) s t ∧ ZStepped s t z 1) ∧
     (let v := s.reg8 (accReg8 r)
      ∃ t, exec (.stZm8 z r) s = .next t ∧ DataOnly s t ∧ RegsAre t 1 none none s ∧
       MemoryKept ((s.zmEa z).addr :: autoBytes (zmAuto z)) s t ∧
       (MemoryCanonical s → (s.zmEa z).addr ∉ autoBytes (zmAuto z) → t.readByte (s.zmEa z).addr = v) ∧
       ZStepped (s.write8 (s.zmEa z) v) t z 1)) ∧
  (∀ (z : Zm) (r : Acc16) (s : State), AccessAllowed s (s.zmEa z) →
     (∃ t, exec (.ldZm16 r z) s = .next t ∧ DataOnly s t ∧
       RegsAre t 2 none none (s.setReg16 (accReg16 r) (s.read16 (s.zmEa z))) ∧
       MemoryKept (autoBytes (zmAuto z)) s t ∧ ZStepped s t z 2) ∧
     (let v := s.reg16 (accReg16 r)
      ∃ t, exec (.stZm16 z r) s = .next t ∧ DataOnly s t ∧ RegsAre t 2 none none s ∧
       MemoryKept ((s.zmEa z).bytes16 ++ autoBytes (zmAuto z)) s t ∧
       (MemoryCanonical s → (∀ a ∈ (s.zmEa z).bytes16, a ∉ autoBytes (zmAuto z)) → t.read16 (s.zmEa z) = v) ∧
       ZStepped (s.write16 (s.zmEa z) v) t z 2))

/-! ## The stack -/

/-- R260, R261, R264, R265: PUSH of any even source, read with the old SP, and PUSH KF: SP lowers by 2, the word lies
at the new SP, nothing else is stored; POP into any even destination, resolved with the old SP, and POP F (the low
byte of the word, K unchanged): SP rises by 2. A pointer steps by 2. The old SP for source and destination is the
spec's own choice D12 (log 26), the low byte for POP F its choice D25 (log 28). -/
def Obligations.PushPop : Prop :=
  ((∀ (src : Src16) (s : State), EvenMem s src.memory →
     ∃ t, exec (.push src) s = .next t ∧ DataOnly s t ∧ RegsAre t 2 src.memory none (s.setSp (s.sp - 2)) ∧
       MemoryKept (s.pushBytes 1) s t ∧ (MemoryCanonical s → t.top16 = s.readSrc16 src) ∧
       FlagsBesidesA t false s.f ∧ FlagAIs t 2 src.memory none s s.f.a none) ∧
   (∀ s : State, ∃ t, exec .pushKF s = .next t ∧ t = { s with spHi := t.spHi, mem := t.mem } ∧ t.sp = s.sp - 2 ∧
     MemoryKept (s.pushBytes 1) s t ∧
     (MemoryCanonical s → t.readByte (0#8 ++ t.sp) = s.f.toByte ∧ t.readByte (0#8 ++ (t.sp + 1)) = s.k))) ∧
  ((∀ (dst : Loc16) (s : State), EvenMem s dst.memory →
     ∃ t, exec (.pop dst) s = .next t ∧ DataOnly s t ∧
       RegsAre t 2 none dst.memory ((s.setSp (s.sp + 2)).withReg16 dst s.top16) ∧ Stored16 s t dst.memory s.top16 ∧
       FlagsBesidesA t false s.f ∧
       FlagAIs t 2 none dst.memory ((s.setSp (s.sp + 2)).withReg16 dst s.top16) s.f.a none) ∧
   (∀ s : State, ∃ t, exec .popF s = .next t ∧ t = { s with spHi := t.spHi, f := t.f } ∧ t.sp = s.sp + 2 ∧
     t.f.toByte = s.readByte (0#8 ++ s.sp)))

/-- R262, R263, R266, R267: PUSH GPR leaves DS, IX, HL, AB, C at the new SP upward, PUSH ALL those, the four shadow
pairs, C':C and F':F, SP lower by 10 and 20, nothing else stored; POP GPR and POP ALL load them back, SP higher by 10
and 20, memory, K and E untouched. The $00 above C and the low byte taken for C are the spec's own choice D25, the
unspecified bit 5 of the F' byte its choice D23 (logs 9, 28). -/
def Obligations.PushPopGroups : Prop :=
  (∀ s : State,
     let at_ (t : State) (k : Nat) : Word := t.read16 (Ea.bank0 (t.sp + BitVec.ofNat 16 k))
     (∃ t, exec .pushGpr s = .next t ∧ t = { s with spHi := t.spHi, mem := t.mem } ∧ t.sp = s.sp - 10 ∧
       MemoryKept (s.pushArea 5) s t ∧
       (MemoryCanonical s → at_ t 0 = s.reg16 .ds ∧ at_ t 2 = s.reg16 .ix ∧ at_ t 4 = s.reg16 .hl ∧
         at_ t 6 = s.reg16 .ab ∧ at_ t 8 = 0#8 ++ s.regs.c)) ∧
     (∃ t, exec .pushAll s = .next t ∧ t = { s with spHi := t.spHi, mem := t.mem, fresh := t.fresh } ∧
       t.sp = s.sp - 20 ∧ MemoryKept (s.pushArea 10) s t ∧
       (MemoryCanonical s → at_ t 0 = s.reg16 .ds ∧ at_ t 2 = s.reg16 .ix ∧ at_ t 4 = s.reg16 .hl ∧
         at_ t 6 = s.reg16 .ab ∧ at_ t 8 = s.shadow.d ++ s.shadow.s ∧ at_ t 10 = s.shadow.i ++ s.shadow.x ∧
         at_ t 12 = s.shadow.h ++ s.shadow.l ∧ at_ t 14 = s.shadow.a ++ s.shadow.b ∧
         at_ t 16 = s.shadow.c ++ s.regs.c ∧
         ∃ bit5 : Bool, at_ t 18 = s.fShadow.toByte bit5 ++ s.f.toByte))) ∧
  (∀ s : State,
     let w (k : Nat) : Word := s.read16 (Ea.bank0 (s.sp + BitVec.ofNat 16 k))
     let hi (v : Word) : Byte := v.extractLsb' 8 8
     let lo (v : Word) : Byte := v.extractLsb' 0 8
     (∃ t, exec .popGpr s = .next t ∧ t = { s with spHi := t.spHi, regs := t.regs } ∧ t.sp = s.sp + 10 ∧
       t.reg16 .ds = w 0 ∧ t.reg16 .ix = w 2 ∧ t.reg16 .hl = w 4 ∧ t.reg16 .ab = w 6 ∧ t.regs.c = lo (w 8)) ∧
     (∃ t, exec .popAll s = .next t ∧
       t = { s with spHi := t.spHi, regs := t.regs, shadow := t.shadow, f := t.f, fShadow := t.fShadow } ∧
       t.sp = s.sp + 20 ∧
       t.reg16 .ds = w 0 ∧ t.reg16 .ix = w 2 ∧ t.reg16 .hl = w 4 ∧ t.reg16 .ab = w 6 ∧
       t.shadow.d ++ t.shadow.s = w 8 ∧ t.shadow.i ++ t.shadow.x = w 10 ∧ t.shadow.h ++ t.shadow.l = w 12 ∧
       t.shadow.a ++ t.shadow.b = w 14 ∧ t.shadow.c = hi (w 16) ∧ t.regs.c = lo (w 16) ∧
       t.fShadow.toByte ((hi (w 18)).getLsbD 5) = hi (w 18) ∧ t.f.toByte = lo (w 18)))

/-- R266, R267: "Exact inverse": POP GPR after PUSH GPR, and POP ALL after PUSH ALL, restore every register, F, F' and
SP, from any state with canonical memory; only the stack bytes below SP differ (the layout of the C and F' words is
the spec's own choice, D25 and D23; log 28). -/
def Obligations.PopUndoesPush : Prop :=
  ∀ s : State, MemoryCanonical s →
    (∃ t, exec .pushGpr s = .next t ∧ exec .popGpr t = .next { s with mem := t.mem } ∧
      MemoryKept (s.pushArea 5) s t) ∧
    (∃ t, exec .pushAll s = .next t ∧ exec .popAll t = .next { s with mem := t.mem, fresh := t.fresh } ∧
      MemoryKept (s.pushArea 10) s t)

/-! ## Two-operand arithmetic and logic -/

/-- R280 to R289, forms F1 and F2: ADD, ADC, SUB, SBC, AND, XOR, OR and CP of A or B with any source or an immediate
byte: the result, written out, goes to the accumulator (CP writes none), S, Z, H, V, C and A as R289 has them, the
source's pointer steps. H itself is general knowledge G1 (log 16), V of the logic group parity of all 8 bits (decision
D7; log 27). -/
def Obligations.AluByteAccumulator : Prop :=
  ∀ (r : Acc8) (src : Src8) (v : Byte) (s : State),
    let reg := accReg8 r
    let x := s.reg8 reg
    let y := s.readSrc8 src
    let c := s.f.c.toNat
    let arith (i : Instr) (m : Option Mem) (res : Byte) (f : Flags) : Prop :=
      EndsReading i s 1 m none (s.setReg8 reg res) (some f.c) f
    let logic (i : Instr) (m : Option Mem) (res : Byte) : Prop :=
      EndsReading i s 1 m none (s.setReg8 reg res) none (bitwiseFlags 8 s.f res)
    let compares (i : Instr) (m : Option Mem) (f : Flags) : Prop := EndsReading i s 1 m none s (some f.c) f
    (arith (.addSrc8 r src) src.memory (x + y) (sumFlags 16 s.f x y 0) ∧
     arith (.adcSrc8 r src) src.memory (x + y + BitVec.ofNat 8 c) (sumFlags 16 s.f x y c) ∧
     arith (.subSrc8 r src) src.memory (x - y) (differenceFlags 16 s.f x y 0) ∧
     arith (.sbcSrc8 r src) src.memory (x - y - BitVec.ofNat 8 c) (differenceFlags 16 s.f x y c) ∧
     logic (.andSrc8 r src) src.memory (x &&& y) ∧ logic (.xorSrc8 r src) src.memory (x ^^^ y) ∧
     logic (.orSrc8 r src) src.memory (x ||| y) ∧
     compares (.cpSrc8 r src) src.memory (differenceFlags 16 s.f x y 0)) ∧
    arith (.addImm8 r v) none (x + v) (sumFlags 16 s.f x v 0) ∧
    arith (.adcImm8 r v) none (x + v + BitVec.ofNat 8 c) (sumFlags 16 s.f x v c) ∧
    arith (.subImm8 r v) none (x - v) (differenceFlags 16 s.f x v 0) ∧
    arith (.sbcImm8 r v) none (x - v - BitVec.ofNat 8 c) (differenceFlags 16 s.f x v c) ∧
    logic (.andImm8 r v) none (x &&& v) ∧ logic (.xorImm8 r v) none (x ^^^ v) ∧ logic (.orImm8 r v) none (x ||| v) ∧
    compares (.cpImm8 r v) none (differenceFlags 16 s.f x v 0)

/-- R280 to R289, form F3: the eight operations on any byte destination and A or B, results and flags written out as
in `AluByteAccumulator` (H: log 16; parity: decision D7, log 27); CP only reads the destination, but steps its pointer
(that it is a destination position is the spec's own choice D27; log 25). -/
def Obligations.AluByteDestination : Prop :=
  ∀ (dst : Loc8) (r : Acc8) (s : State),
    let x := s.readLoc8 dst
    let y := s.reg8 (accReg8 r)
    let c := s.f.c.toNat
    let arith (i : Instr) (res : Byte) (f : Flags) : Prop := Ends8 i s none dst res false (some f.c) f
    let logic (i : Instr) (res : Byte) : Prop := Ends8 i s none dst res false none (bitwiseFlags 8 s.f res)
    let compares (i : Instr) (f : Flags) : Prop := EndsReading i s 1 none dst.memory s (some f.c) f
    arith (.addDst8 dst r) (x + y) (sumFlags 16 s.f x y 0) ∧
    arith (.adcDst8 dst r) (x + y + BitVec.ofNat 8 c) (sumFlags 16 s.f x y c) ∧
    arith (.subDst8 dst r) (x - y) (differenceFlags 16 s.f x y 0) ∧
    arith (.sbcDst8 dst r) (x - y - BitVec.ofNat 8 c) (differenceFlags 16 s.f x y c) ∧
    logic (.andDst8 dst r) (x &&& y) ∧ logic (.xorDst8 dst r) (x ^^^ y) ∧ logic (.orDst8 dst r) (x ||| y) ∧
    compares (.cpDst8 dst r) (differenceFlags 16 s.f x y 0)

/-- R280 to R289, forms F4 and F5: the eight operations on AB or HL and any even source, or an immediate byte that is
zero-extended for ADD, ADC, SUB, SBC and sign-extended for AND, XOR, OR, CP; results and flags written out. H at bit
`H16_BIT`, 11 by default, is decision D8 (log 16), parity over `PARITY_WIDTH` bits, all 16 by default, decision D7
(log 27). -/
def Obligations.AluWordAccumulator : Prop :=
  ∀ (r : Acc16) (v : Byte) (s : State),
    let reg := accReg16 r
    let x := s.reg16 reg
    let c := s.f.c.toNat
    let hm := 2 ^ (s.params.h16Bit.val + 1)
    let arith (i : Instr) (m : Option Mem) (res : Word) (f : Flags) : Prop :=
      EndsReading i s 2 m none (s.setReg16 reg res) (some f.c) f
    let logic (i : Instr) (m : Option Mem) (res : Word) : Prop :=
      EndsReading i s 2 m none (s.setReg16 reg res) none (bitwiseFlags s.params.parityWidth s.f res)
    let compares (i : Instr) (m : Option Mem) (f : Flags) : Prop := EndsReading i s 2 m none s (some f.c) f
    (∀ src : Src16, EvenMem s src.memory → let y := s.readSrc16 src
      arith (.addSrc16 r src) src.memory (x + y) (sumFlags hm s.f x y 0) ∧
      arith (.adcSrc16 r src) src.memory (x + y + BitVec.ofNat 16 c) (sumFlags hm s.f x y c) ∧
      arith (.subSrc16 r src) src.memory (x - y) (differenceFlags hm s.f x y 0) ∧
      arith (.sbcSrc16 r src) src.memory (x - y - BitVec.ofNat 16 c) (differenceFlags hm s.f x y c) ∧
      logic (.andSrc16 r src) src.memory (x &&& y) ∧ logic (.xorSrc16 r src) src.memory (x ^^^ y) ∧
      logic (.orSrc16 r src) src.memory (x ||| y) ∧
      compares (.cpSrc16 r src) src.memory (differenceFlags hm s.f x y 0)) ∧
    (let u : Word := v.zeroExtend 16
     let i : Word := v.signExtend 16
     arith (.addImm16 r v) none (x + u) (sumFlags hm s.f x u 0) ∧
     arith (.adcImm16 r v) none (x + u + BitVec.ofNat 16 c) (sumFlags hm s.f x u c) ∧
     arith (.subImm16 r v) none (x - u) (differenceFlags hm s.f x u 0) ∧
     arith (.sbcImm16 r v) none (x - u - BitVec.ofNat 16 c) (differenceFlags hm s.f x u c) ∧
     logic (.andImm16 r v) none (x &&& i) ∧ logic (.xorImm16 r v) none (x ^^^ i) ∧ logic (.orImm16 r v) none (x ||| i) ∧
     compares (.cpImm16 r v) none (differenceFlags hm s.f x i 0))

/-- R280 to R289, form F6: the eight operations on any even word destination and AB or HL, results and flags written
out as in `AluWordAccumulator` (H: decision D8, log 16; parity: decision D7, log 27; CP's destination position: D27,
log 25). -/
def Obligations.AluWordDestination : Prop :=
  ∀ (dst : Loc16) (r : Acc16) (s : State), EvenMem s dst.memory →
    let x := s.readLoc16 dst
    let y := s.reg16 (accReg16 r)
    let c := s.f.c.toNat
    let hm := 2 ^ (s.params.h16Bit.val + 1)
    let arith (i : Instr) (res : Word) (f : Flags) : Prop := Ends16 i s none dst res false (some f.c) f
    let logic (i : Instr) (res : Word) : Prop :=
      Ends16 i s none dst res false none (bitwiseFlags s.params.parityWidth s.f res)
    let compares (i : Instr) (f : Flags) : Prop := EndsReading i s 2 none dst.memory s (some f.c) f
    arith (.addDst16 dst r) (x + y) (sumFlags hm s.f x y 0) ∧
    arith (.adcDst16 dst r) (x + y + BitVec.ofNat 16 c) (sumFlags hm s.f x y c) ∧
    arith (.subDst16 dst r) (x - y) (differenceFlags hm s.f x y 0) ∧
    arith (.sbcDst16 dst r) (x - y - BitVec.ofNat 16 c) (differenceFlags hm s.f x y c) ∧
    logic (.andDst16 dst r) (x &&& y) ∧ logic (.xorDst16 dst r) (x ^^^ y) ∧ logic (.orDst16 dst r) (x ||| y) ∧
    compares (.cpDst16 dst r) (differenceFlags hm s.f x y 0)

/-! ## Control transfers -/

/-- R300 to R303, R311: DJNZ decrements its counter and jumps by 2 * (pcr8 - 256) from PCnext unless it became 0; JR
and JRL jump from PCnext when the condition holds and otherwise do nothing; all stay in the bank and change no flag.
JRL's offset in bits 15:1 of its word is the spec's own choice D9 (log 25), 'otherwise do nothing' its choice D13 (log
26). -/
def Obligations.LoopsAndRelativeJumps : Prop :=
  (∀ (p : Byte) (s : State),
     (∀ r : Acc8, ∃ t, exec (.djnz8 r p) s = .next t ∧ t = { s with regs := t.regs, pcHi := t.pcHi } ∧
       t.reg8 (accReg8 r) = s.reg8 (accReg8 r) - 1 ∧ (∀ q, q ≠ accReg8 r → t.reg8 q = s.reg8 q) ∧
       t.regs.c = s.regs.c ∧
       t.pc = if s.reg8 (accReg8 r) = 1 then s.pc else s.pc + BitVec.ofInt 16 (2 * ((p.toNat : Int) - 256))) ∧
     (∀ r : Acc16, ∃ t, exec (.djnz16 r p) s = .next t ∧ t = { s with regs := t.regs, pcHi := t.pcHi } ∧
       t.reg16 (accReg16 r) = s.reg16 (accReg16 r) - 1 ∧ (∀ q, q ≠ accReg16 r → t.reg16 q = s.reg16 q) ∧
       t.regs.c = s.regs.c ∧
       t.pc = if s.reg16 (accReg16 r) = 1 then s.pc else s.pc + BitVec.ofInt 16 (2 * ((p.toNat : Int) - 256)))) ∧
  (∀ (c : Cond) (p : BitVec 10) (q : BitVec 15) (s : State),
     (∃ t, exec (.jr c p) s = .next t ∧ t = { s with pcHi := t.pcHi } ∧
       t.pc = if s.f.cond c then s.pc + BitVec.ofInt 16 (2 * p.toInt) else s.pc) ∧
     (∃ t, exec (.jrl c q) s = .next t ∧ t = { s with pcHi := t.pcHi } ∧
       t.pc = if s.f.cond c then s.pc + (q ++ 0#1) else s.pc))

/-- R300, R304, R306, R312: CALLR, CALLRL and CALL push PCnext, one word, and go to their target in the same bank; the
target of CALL is read before the push, and its pointer steps without touching the A flag. The spec's own choices
here: CALLRL's layout D9 (log 25), the target read before the push D12 (log 26), the untouched A flag conflict C5 (log
22), the dropped bit 0 of an odd PC D1 (log 23; under `ODD_WRITE` = `keep`, the model's other value, an odd target is
not written: log 37). -/
def Obligations.NearCalls : Prop :=
  ∀ (s : State),
    let called (i : Instr) (target : Word) : Prop := ∃ t, exec i s = .next t ∧
      t = { s with spHi := t.spHi, pcHi := t.pcHi, mem := t.mem } ∧ t.sp = s.sp - 2 ∧ t.pc = target ∧
      MemoryKept (s.pushBytes 1) s t ∧ (MemoryCanonical s → t.top16 = s.pc)
    (∀ p : BitVec 10, called (.callr p) (s.pc + BitVec.ofInt 16 (2 * p.toInt))) ∧
    (∀ q : BitVec 15, called (.callrl q) (s.pc + (q ++ 0#1))) ∧
    (∀ a : Src16, EvenMem s a.memory → ∃ t, exec (.call a) s = .next t ∧
      DataOnly { s with pcHi := t.pcHi } t ∧ RegsAre t 2 a.memory none (s.setSp (s.sp - 2)) ∧ t.f = s.f ∧
      t.pc = afterWrite s.params s.pc (s.readSrc16 a) ∧ MemoryKept (s.pushBytes 1) s t ∧
      (MemoryCanonical s → t.top16 = s.pc))

/-- R300, R305, R307, R309, R313: JP and JPD go to their operand when the condition holds, JPD taking K from D; the
pointer steps, no flag changes, A included. JPF goes to a 24-bit address in its words or in memory at an even pointer
(offset low, offset high, bank). When the condition fails nothing happens at all. The spec's own choices here: A
included conflict C5 (log 22), nothing at all when untaken D13 (log 26), the dropped bit 0 of an odd PC D1 (log 23;
`ODD_WRITE` = `keep`: log 37), the 24-bit read D31 (log 24). -/
def Obligations.Jumps : Prop :=
  (∀ (c : Cond) (a : Src16) (s : State),
     (s.f.cond c = false → exec (.jp c a) s = .next s ∧ exec (.jpd c a) s = .next s) ∧
     (s.f.cond c = true → EvenMem s a.memory →
       (∃ t, exec (.jp c a) s = .next t ∧ DataOnly { s with pcHi := t.pcHi } t ∧ RegsAre t 2 a.memory none s ∧
         MemoryKept [] s t ∧ t.f = s.f ∧ t.pc = afterWrite s.params s.pc (s.readSrc16 a)) ∧
       (∃ t, exec (.jpd c a) s = .next t ∧ DataOnly { s with pcHi := t.pcHi, k := s.regs.d } t ∧
         RegsAre t 2 a.memory none s ∧ MemoryKept [] s t ∧ t.f = s.f ∧
         t.pc = afterWrite s.params s.pc (s.readSrc16 a)))) ∧
  (∀ (c : Cond) (s : State),
     (∀ (b : Byte) (a : Word), ∃ t, exec (.jpfAbs c b a) s = .next t ∧ t = { s with k := t.k, pcHi := t.pcHi } ∧
       (t.k, t.pc) = if s.f.cond c then (b, afterWrite s.params s.pc a) else (s.k, s.pc)) ∧
     (∀ m : PlainMem, s.f.cond c = false → exec (.jpfMem c m) s = .next s) ∧
     (∀ m : PlainMem, s.f.cond c = true → EvenMem s (some (.plain m)) →
       ∃ t, exec (.jpfMem c m) s = .next t ∧ t = { s with k := t.k, pcHi := t.pcHi } ∧
         t.k = s.readByte ((s.plainEa m).byte 2) ∧
         t.pc = afterWrite s.params s.pc (s.readByte ((s.plainEa m).byte 1) ++ s.readByte ((s.plainEa m).byte 0))))

/-- R300, R308, R310, R314, R318: CALLD, CALLF in both forms and RST push the far frame K:F, PCnext and go to their
24-bit target, read before the pushes; no flag changes. The spec's own choices here: read before the pushes D12 (log
26), A unchanged by CALLD with a "DS:" auto-index conflict C5 (log 22), the dropped bit 0 of an odd PC D1 (log 23;
`ODD_WRITE` = `keep`: log 37). -/
def Obligations.FarCalls : Prop :=
  ∀ (s : State),
    let called (i : Instr) (bank : Byte) (off : Word) : Prop := ∃ t, exec i s = .next t ∧
      t = { s with spHi := t.spHi, pcHi := t.pcHi, k := bank, mem := t.mem } ∧ t.pc = afterWrite s.params s.pc off ∧
      FarFrame s t s.pc
    (∀ b a, called (.callfAbs b a) b a) ∧
    (∀ n : Byte, called (.rst n) 0xFF (0xF000 + 16 * n.zeroExtend 16)) ∧
    (∀ m : PlainMem, EvenMem s (some (.plain m)) → called (.callfMem m) (s.readByte ((s.plainEa m).byte 2))
      (s.readByte ((s.plainEa m).byte 1) ++ s.readByte ((s.plainEa m).byte 0))) ∧
    (∀ a : Src16, EvenMem s a.memory → ∃ t, exec (.calld a) s = .next t ∧
      DataOnly { s with pcHi := t.pcHi, k := s.regs.d } t ∧ RegsAre t 2 a.memory none (s.setSp (s.sp - 4)) ∧
      t.f = s.f ∧ t.pc = afterWrite s.params s.pc (s.readSrc16 a) ∧ FarFrame s t s.pc)

/-- R300, R315, R316, R317: RET pops PC; RETF pops PC, then K and all eight flags, the condition read before the pop;
RETI does the same unconditionally and sets its bit of E, no other. Untaken, RET and RETF do nothing. The spec's own
choices here: nothing when untaken D13 (log 26), RETI unconditional D36 (log 25), the dropped bit 0 of an odd PC D1
(log 23; `ODD_WRITE` = `keep`: log 37). -/
def Obligations.Returns : Prop :=
  ∀ (c : Cond) (n : BitVec 3) (s : State),
    let far (t : State) : Prop := t.sp = s.sp + 4 ∧ t.pc = afterWrite s.params s.pc (s.read16 (Ea.bank0 s.sp)) ∧
      t.f.toByte = s.readByte (0#8 ++ (s.sp + 2)) ∧ t.k = s.readByte (0#8 ++ (s.sp + 3))
    (s.f.cond c = false → exec (.ret c) s = .next s ∧ exec (.retf c) s = .next s) ∧
    (s.f.cond c = true →
      (∃ t, exec (.ret c) s = .next t ∧ t = { s with spHi := t.spHi, pcHi := t.pcHi } ∧ t.sp = s.sp + 2 ∧
        t.pc = afterWrite s.params s.pc (s.read16 (Ea.bank0 s.sp))) ∧
      (∃ t, exec (.retf c) s = .next t ∧ t = { s with spHi := t.spHi, pcHi := t.pcHi, k := t.k, f := t.f } ∧ far t)) ∧
    (∃ t, exec (.reti n) s = .next t ∧ t = { s with spHi := t.spHi, pcHi := t.pcHi, k := t.k, f := t.f, e := t.e } ∧
      far t ∧ ∀ j : Fin 8, t.e.getLsbD j = (s.e.getLsbD j || decide (j.val = n.toNat)))

/-- R316, R317, R334, R340 to R342: RETF after an NMI entry, and RETI n after the entry to interrupt n, resume where
the core was, from any running state with canonical memory: every register, K, PC, F, SP and E are back; only the
frame's bytes of memory differ. The entry frame and the cleared E[n] are the spec's inference from the returns
(decision D14; log 18). -/
def Obligations.EntryThenReturn : Prop :=
  (∀ s : State, MemoryCanonical s → s.run = .running →
     exec (.retf .always) s.enterNmi = .next { s with mem := s.enterNmi.mem } ∧
       MemoryKept (s.pushArea 2) s s.enterNmi) ∧
  (∀ (s : State) (n : Fin 8), MemoryCanonical s → s.run = .running → s.e.getLsbD n = true →
     exec (.reti (BitVec.ofNat 3 n)) (s.enterIrq n) = .next { s with mem := (s.enterIrq n).mem } ∧
       MemoryKept (s.pushArea 2) s (s.enterIrq n))

/-! ## REPI and the stops -/

/-- R150: REPI r executes its target once, decrements r (also when the target wrote it), and leaves PC at the REPI
unless r became 0, when it goes past the target. It completes for every target that does: for LD of bytes always (the
per-repetition form is decision D22; log 29). -/
def Obligations.RepiRegister : Prop :=
  ∀ (r : RepReg) (i : Instr) (s u : State), s.fetchAt s.pc = .ok i → repeatable i = true →
    let past := s.setPc (s.pc + BitVec.ofNat 16 i.byteLength)
    (exec i past = .next u →
      exec (.repiReg r) s = .next (if u.reg8 (counterReg r) = 1 then u.setReg8 (counterReg r) 0
        else (u.setReg8 (counterReg r) (u.reg8 (counterReg r) - 1)).setPc (s.pc - 2))) ∧
    (∀ e, exec i past = .fault e → exec (.repiReg r) s = .fault e) ∧
    ((∃ dst src, i = .ld dst src) → ∃ t, exec (.repiReg r) s = .next t)

/-- R151: REPI imm executes its target 2 to 17 times in one step, PC then past the target, as long as no repetition
that executes stores over the target's own words (log 14). It completes for every target that does so: for LD of bytes
always, and for LD into a register whatever memory holds (the set of targets is the spec's own choice D22; log 29). -/
def Obligations.RepiImmediate : Prop :=
  (∀ (n : BitVec 4) (i : Instr) (s : State), s.fetchAt s.pc = .ok i → repeatable i = true →
     let past := s.setPc (s.pc + BitVec.ofNat 16 i.byteLength)
     (∀ (m : Nat) (u v : State), m < n.toNat + 2 → execTimes i m past = .next u → exec i u = .next v →
       ∀ a ∈ u.stores i, a ∉ s.codeBytes s.pc i.byteLength) →
     exec (.repiImm n) s = execTimes i (n.toNat + 2) past ∧
     ((∃ dst src, i = .ld dst src) →
       ∃ t, exec (.repiImm n) s = .next t ∧ t.pc = s.pc + BitVec.ofNat 16 i.byteLength)) ∧
  (∀ (n : BitVec 4) (r : Reg8) (src : Src8) (s : State), let i := Instr.ld (.reg r) src
     s.fetchAt s.pc = .ok i → ∃ t, exec (.repiImm n) s = .next t ∧ t.pc = s.pc + BitVec.ofNat 16 i.byteLength)

/-- R93, R150 to R152: what REPI may repeat; before anything else it stops (REPI, HALT and STOP in the forbidden set
and the stop itself are the spec's own choice D22; log 29); an illegal target raises as usual (with its own address:
log 12); a target of REPI imm that stores over its own words, in whichever repetition, stops (log 14). -/
def Obligations.RepiStops : Prop :=
  (∀ i : Instr, repeatable i = false ↔
     (∃ a, i = .mulu a ∨ i = .divu a) ∨ (∃ a, i = .mulsw a ∨ i = .divsw a) ∨ (∃ r p, i = .djnz8 r p) ∨
     (∃ r p, i = .djnz16 r p) ∨ (∃ c p, i = .jr c p) ∨ (∃ c p, i = .jrl c p) ∨ (∃ c a, i = .jp c a ∨ i = .jpd c a) ∨
     (∃ c m, i = .jpfMem c m) ∨ (∃ c b a, i = .jpfAbs c b a) ∨ (∃ p, i = .callr p) ∨ (∃ p, i = .callrl p) ∨
     (∃ a, i = .call a ∨ i = .calld a) ∨ (∃ m, i = .callfMem m) ∨ (∃ b a, i = .callfAbs b a) ∨ (∃ n, i = .rst n) ∨
     (∃ c, i = .ret c ∨ i = .retf c) ∨ (∃ n, i = .reti n) ∨ (∃ r, i = .repiReg r) ∨ (∃ n, i = .repiImm n) ∨
     i = .halt ∨ i = .stop) ∧
  ∀ (r : RepReg) (n : BitVec 4) (s : State),
    (∀ i, s.fetchAt s.pc = .ok i → repeatable i = false →
      exec (.repiReg r) s = .fault .repiTarget ∧ exec (.repiImm n) s = .fault .repiTarget) ∧
    (∀ e, s.fetchAt s.pc = .error e →
      exec (.repiReg r) s = s.raiseIllegal s.pc (s.fetchWord s.pc) ∧
      exec (.repiImm n) s = s.raiseIllegal s.pc (s.fetchWord s.pc)) ∧
    (∀ (i : Instr) (m : Nat) (u v : State), s.fetchAt s.pc = .ok i → repeatable i = true → m < n.toNat + 2 →
      execTimes i m (s.setPc (s.pc + BitVec.ofNat 16 i.byteLength)) = .next u → exec i u = .next v →
      (∃ a ∈ u.stores i, a ∈ s.codeBytes s.pc i.byteLength) → exec (.repiImm n) s = .fault .selfModifyingRepi)

/-- R64, R366: with `MISALIGNED` = `fault`, the default, a 16-bit or 24-bit data access at an odd linear address stops
with that address (the stop is decision D3; logs 21, 36): every 16-bit destination, every 16-bit source, the ZM words,
and the pointers of the jumps that are taken and of the calls. -/
def Obligations.MisalignedStops : Prop :=
  ∀ (m : Mem) (p : PlainMem) (z : Zm) (k : BitVec 3) (v : Word) (r : Acc16) (q : Loc16) (c : Cond) (s : State),
    s.params.misaligned = .fault →
    let d : Loc16 := .mem m
    let a : Src16 := .loc (.mem m)
    let stops (ea : Ea) (i : Instr) : Prop := ea.addr.getLsbD 0 = true → exec i s = .fault (.misaligned ea.addr)
    (∀ i ∈ [Instr.ldpca d v, .ldixa d v, .ldspa d v, .incw k d, .decw k d, .negw d, .cplw d, .ngcw d, .clrw d, .rlcw d,
        .rrcw d, .rlw d, .rrw d, .slaw d, .sraw d, .swapw d, .srlw d, .pop d, .addDst16 d r, .adcDst16 d r,
        .subDst16 d r, .sbcDst16 d r, .andDst16 d r, .xorDst16 d r, .orDst16 d r, .cpDst16 d r, .ldw d (.imm v),
        .mulsw a, .divsw a, .push a, .ldw q a, .addSrc16 r a, .adcSrc16 r a, .subSrc16 r a, .sbcSrc16 r a,
        .andSrc16 r a, .xorSrc16 r a, .orSrc16 r a, .cpSrc16 r a, .call a, .calld a], stops (s.memEa m) i) ∧
    (∀ src : Src16, EvenMem s src.memory → stops (s.memEa m) (.ldw d src)) ∧
    (∀ i ∈ [Instr.stZm16 z r, .ldZm16 r z], stops (s.zmEa z) i) ∧ stops (s.plainEa p) (.callfMem p) ∧
    (s.f.cond c = true → stops (s.memEa m) (.jp c a) ∧ stops (s.memEa m) (.jpd c a) ∧ stops (s.plainEa p) (.jpfMem c p))

/-! ## Parameters -/

/-- R7: the defaults of the parameters after reset, and what each value of five of them does: an odd write to SP or PC
drops bit 0, or is ignored; an address above $FFFFFF is truncated to 24 bits, or stays in its base's bank; one "DS:"
auto-index gives A the carry or borrow of the pointer, or a free value; a `pcr15` word holds its offset in bits 15:1 or
in 14:0, its pad bit 0; the high byte of an 8-bit immediate's word is 0, or ignored. The defaults are decisions D1 to
D4, D7 to D11, D14, D15, D17, D20, D32 (log 36); the second value of each of the five is the model's (log 37). -/
def Obligations.ParameterDefaults : Prop :=
  (let p := State.reset.params
   State.reset.illegalMode = .fault ∧ p.oddWrite = .discard ∧ p.linearWrap = .truncate ∧ p.misaligned = .fault ∧
   p.aOnAutoIndex = .carry ∧ p.h16Bit = 11 ∧ p.parityWidth = 16 ∧ p.pcr15Layout = .high ∧ p.padNonzero = .illegal ∧
   p.irqClearsI = false ∧ p.irqOrder = [0, 1, 2, 3, 4, 5, 6, 7] ∧ p.resetI = false ∧ p.resetE = 0x00 ∧
   p.daa = .customary ∧ p.das = .customary ∧ p.divsRounding = .truncate) ∧
  (∀ (s : State) (v : Word),
    (s.params.oddWrite = .discard → (s.setSp v).sp = (v &&& 0xFFFE) ∧ (s.setPc v).pc = (v &&& 0xFFFE)) ∧
    (s.params.oddWrite = .keep → (s.setSp v).sp = (if v.getLsbD 0 then s.sp else v) ∧
      (s.setPc v).pc = if v.getLsbD 0 then s.pc else v)) ∧
  (∀ (b : Addr) (off : Word), let sum := b.toNat + off.toNat
    (LinearWrap.truncate.address b off).toNat = sum % 2 ^ 24 ∧
    (LinearWrap.stayInBank.address b off).toNat =
      if sum < 2 ^ 24 then sum else b.toNat / 65536 * 65536 + sum % 65536) ∧
  (∀ (s : State) (a : AutoIndex) (w : Nat), let p := (s.pointer a.ptr).toNat
    (a.dir = .inc → s.carry a w = decide (65535 < p + w)) ∧ (a.dir = .dec → s.carry a w = decide (p < w))) ∧
  (∀ (s : State) (c : Bool),
    (s.params.aOnAutoIndex = .carry → s.adjustA .star c = { s with f := { s.f with a := c } }) ∧
    (s.params.aOnAutoIndex = .free →
      s.adjustA .star c = { s with f := { s.f with a := s.freeBit }, fresh := s.fresh + 1 })) ∧
  (∀ (w : Word) (o : BitVec 15), (Pcr15Layout.high.offset w = some o ↔ w = o ++ 0#1) ∧
    (Pcr15Layout.low.offset w = some o ↔ w = 0#1 ++ o)) ∧
  (∀ (w : Word) (v : Byte), (PadNonzero.illegal.imm8 w = some v ↔ w = 0#8 ++ v) ∧
    (PadNonzero.ignored.imm8 w = some v ↔ v = w.extractLsb' 0 8))

end
end

