-- ==== Sys2Proof/Laws/Params.lean ====
section
/-! SUPPORT. What the functions of the parameters do, whatever the parameters: what they write they read back, and where
their values cannot differ they do not. -/

namespace Sys2Proof.Machine

/-- An even value is written as it is, whatever `ODD_WRITE` says (10_state.md R26, R27). -/
theorem OddWrite.stored_even (mode : OddWrite) (old : BitVec 15) {v : Word} (h : v.getLsbD 0 = false) :
    mode.stored old v = v.extractLsb' 1 15 := by
  cases mode with
  | discard => rfl
  | keep => rw [OddWrite.stored, h]; rfl

/-- The upper 15 bits of a word over a zero bit are the word without its bit 0. -/
theorem extract_append_mask (v : Word) : v.extractLsb' 1 15 ++ 0#1 = v &&& 0xFFFE := by
  have mask : ∀ j < 16, (0xFFFE : Word).getLsbD j = decide (1 ≤ j) := by decide
  apply BitVec.eq_of_getLsbD_eq
  intro i hi
  rw [BitVec.getLsbD_append, BitVec.getLsbD_and, mask i hi]
  by_cases h : i < 1
  · simp [show i = 0 by omega]
  · simp [h, show 1 ≤ i by omega, show i - 1 < 15 by omega, show 1 + (i - 1) = i by omega]

/-- However the sum wraps, its low 16 bits are those of base plus offset (20_memory.md R70, `LINEAR_WRAP`). -/
theorem LinearWrap.address_low (mode : LinearWrap) (base : Addr) (off : Word) :
    (mode.address base off).toNat % 65536 = (base.toNat + off.toNat) % 65536 := by
  have := base.isLt
  have := off.isLt
  cases mode with
  | truncate =>
    simp only [LinearWrap.address, BitVec.toNat_add, BitVec.toNat_setWidth]
    omega
  | stayInBank =>
    simp only [LinearWrap.address]
    split
    · simp only [BitVec.toNat_add, BitVec.toNat_setWidth]
      omega
    · simp only [BitVec.toNat_append, BitVec.extractLsb'_toNat, BitVec.toNat_add, BitVec.toNat_setWidth]
      rw [← Nat.shiftLeft_add_eq_or_of_lt (by omega), Nat.shiftLeft_eq]
      simp only [Nat.shiftRight_zero]
      omega

/-- A sum in the 24-bit space is just that sum (20_memory.md R70). -/
theorem LinearWrap.address_eq (mode : LinearWrap) {base : Addr} {off : Word} (h : base.toNat + off.toNat < 2 ^ 24) :
    mode.address base off = base + off.zeroExtend 24 := by
  cases mode with
  | truncate => rfl
  | stayInBank => simp only [LinearWrap.address, if_pos h]

/-- The upper 15 bits of an offset above a zero bit. -/
theorem extract_high (o : BitVec 15) : (o ++ 0#1 : Word).extractLsb' 1 15 = o := by
  apply BitVec.eq_of_getLsbD_eq
  intro i hi
  rw [BitVec.getLsbD_extractLsb', BitVec.getLsbD_append]
  simp [hi, show ¬ 1 + i < 1 by omega]

/-- The lower bits of a concatenation. -/
theorem extract_low {n m : Nat} (x : BitVec n) (y : BitVec m) : (x ++ y).extractLsb' 0 m = y := by
  apply BitVec.eq_of_getLsbD_eq
  intro i hi
  rw [BitVec.getLsbD_extractLsb', BitVec.getLsbD_append]
  simp [hi]

/-- An offset is read back from the word that holds it, in either layout (30_encoding.md R106, `PCR15_LAYOUT`). -/
@[simp] theorem Pcr15Layout.offset_word (layout : Pcr15Layout) (o : BitVec 15) :
    layout.offset (layout.word o) = some o := by
  cases layout with
  | high => rw [Pcr15Layout.offset, Pcr15Layout.word, extract_high, BitVec.getLsbD_append]; rfl
  | low => rw [Pcr15Layout.offset, Pcr15Layout.word, extract_low, BitVec.getLsbD_append]; rfl

/-- An immediate is read back from under its zero pad, whatever `PAD_NONZERO` says (30_encoding.md R106). -/
@[simp] theorem PadNonzero.imm8_padded (mode : PadNonzero) (v : Byte) : mode.imm8 (0#8 ++ v) = some v := by
  have hp : (0#8 ++ v : Word).extractLsb' 8 8 = 0 := by
    apply BitVec.eq_of_getLsbD_eq
    intro i hi
    rw [BitVec.getLsbD_extractLsb', BitVec.getLsbD_append]
    simp [show ¬ 8 + i < 8 by omega]
  cases mode with
  | illegal => rw [PadNonzero.imm8, if_pos hp, extract_low]
  | ignored => rw [PadNonzero.imm8, extract_low]

end Sys2Proof.Machine
end

