-- ==== Sys2Proof/Laws/Memory.lean ====
section
/-! SUPPORT. The laws of memory: a byte reads as last written, a write leaves every other byte alone, and every memory
operation keeps the canonical form. -/

namespace Sys2Proof.Machine

/-! ## The list of cells -/

/-- A key below every listed one reads as an unlisted address. -/
theorem Memory.read_of_wfAbove {m : Memory} {low key : Nat} (h : Memory.wfAbove low m = true) (hk : key < low) :
    Memory.read m key = Memory.unlisted := by
  induction m generalizing low with
  | nil => rfl
  | cons c m ih =>
    obtain ⟨a, v⟩ := c
    simp only [Memory.wfAbove, Bool.and_eq_true, decide_eq_true_eq] at h
    obtain ⟨⟨⟨h1, _⟩, _⟩, h4⟩ := h
    simp only [Memory.read]
    rw [if_neg (by omega), ih h4 (by omega)]

/-- The canonical form above a bound is the canonical form above a lower one. -/
theorem Memory.wfAbove_mono {m : Memory} {low low' : Nat} (h : Memory.wfAbove low m = true) (hl : low' ≤ low) :
    Memory.wfAbove low' m = true := by
  cases m with
  | nil => rfl
  | cons c m =>
    obtain ⟨a, v⟩ := c
    simp only [Memory.wfAbove, Bool.and_eq_true, decide_eq_true_eq] at h ⊢
    exact ⟨⟨⟨hl.trans h.1.1.1, h.1.1.2⟩, h.1.2⟩, h.2⟩

/-- A write leaves every other key alone, canonical or not. -/
theorem Memory.read_write_other (m : Memory) {key key' : Nat} (v : Byte) (h : key' ≠ key) :
    Memory.read (Memory.write m key v) key' = Memory.read m key' := by
  induction m with
  | nil =>
    simp only [Memory.write]
    split
    · rfl
    · simp [Memory.read, h]
  | cons c m ih =>
    obtain ⟨a, u⟩ := c
    simp only [Memory.write]
    split
    · split
      · rfl
      · simp [Memory.read, h]
    · split
      · subst_vars
        split <;> simp [Memory.read, h]
      · simp [Memory.read, ih]

/-- In a canonical memory a key reads as last written. -/
theorem Memory.read_write_same {m : Memory} {low : Nat} (h : Memory.wfAbove low m = true) (key : Nat) (v : Byte) :
    Memory.read (Memory.write m key v) key = v := by
  induction m generalizing low with
  | nil =>
    simp only [Memory.write]
    split
    · simp_all [Memory.read]
    · simp [Memory.read]
  | cons c m ih =>
    obtain ⟨a, u⟩ := c
    have h4 : Memory.wfAbove (a + 1) m = true := by
      simp only [Memory.wfAbove, Bool.and_eq_true] at h
      exact h.2
    simp only [Memory.write]
    split
    · rename_i hlt
      split
      · rename_i hv
        rw [hv]
        simp only [Memory.read]
        rw [if_neg (by omega), Memory.read_of_wfAbove h4 (by omega)]
      · simp [Memory.read]
    · split
      · rename_i heq
        split
        · rename_i hv
          rw [hv, heq, Memory.read_of_wfAbove h4 (by omega)]
        · simp [Memory.read]
      · rename_i hne
        simp only [Memory.read]
        rw [if_neg hne, ih h4]

/-- A write into the 24-bit space keeps the canonical form. -/
theorem Memory.wfAbove_write {m : Memory} {low key : Nat} (h : Memory.wfAbove low m = true) (hl : low ≤ key)
    (hk : key < 2 ^ 24) (v : Byte) : Memory.wfAbove low (Memory.write m key v) = true := by
  induction m generalizing low with
  | nil =>
    simp only [Memory.write]
    split
    · rfl
    · simp_all [Memory.wfAbove]
  | cons c m ih =>
    obtain ⟨a, u⟩ := c
    have h' := h
    simp only [Memory.wfAbove, Bool.and_eq_true, decide_eq_true_eq] at h
    obtain ⟨⟨⟨h1, h2⟩, h3⟩, h4⟩ := h
    simp only [Memory.write]
    split
    · rename_i hlt
      split
      · exact h'
      · rename_i hv
        simp only [Memory.wfAbove, Bool.and_eq_true, decide_eq_true_eq]
        exact ⟨⟨⟨hl, hk⟩, hv⟩, ⟨⟨by omega, h2⟩, h3⟩, h4⟩
    · split
      · rename_i heq
        split
        · exact Memory.wfAbove_mono h4 (by omega)
        · rename_i hv
          simp only [Memory.wfAbove, Bool.and_eq_true, decide_eq_true_eq]
          exact ⟨⟨⟨hl, hk⟩, hv⟩, heq ▸ h4⟩
      · simp only [Memory.wfAbove, Bool.and_eq_true, decide_eq_true_eq]
        exact ⟨⟨⟨h1, h2⟩, h3⟩, ih h4 (by omega)⟩

/-- A write at a linear address keeps the canonical form. -/
theorem Memory.wf_write {m : Memory} (h : m.wf = true) (a : Addr) (v : Byte) :
    Memory.wf (Memory.write m a.toNat v) = true :=
  Memory.wfAbove_write h (Nat.zero_le _) a.isLt v

/-- Whatever cells are given, `ofCells` is canonical. -/
theorem Memory.wf_ofCells (cs : List Host.Cell) : Memory.wf (Memory.ofCells cs) = true := by
  have go : ∀ (cs : List Host.Cell) (m : Memory), m.wf = true →
      Memory.wf (cs.foldl (fun m c => Memory.write m (c.1 % 2 ^ 24) c.2) m) = true := by
    intro cs
    induction cs with
    | nil => exact fun _ h => h
    | cons c cs ih =>
      exact fun m h => ih _ (Memory.wfAbove_write h (Nat.zero_le _) (Nat.mod_lt _ (by decide)) _)
  exact go cs [] rfl

/-! ## Bytes of the linear space -/

/-- A byte store leaves every other byte alone. -/
theorem State.readByte_writeByte_other (s : State) {a b : Addr} (v : Byte) (h : b ≠ a) :
    (s.writeByte a v).readByte b = s.readByte b :=
  Memory.read_write_other s.mem v (fun e => h (BitVec.eq_of_toNat_eq e))

/-- In a canonical memory a byte reads as last stored. -/
theorem State.readByte_writeByte_same (s : State) (h : s.mem.wf = true) (a : Addr) (v : Byte) :
    (s.writeByte a v).readByte a = v :=
  Memory.read_write_same (low := 0) h a.toNat v

/-- A byte store keeps the canonical form. -/
theorem State.writeByte_wf (s : State) (h : s.mem.wf = true) (a : Addr) (v : Byte) :
    (s.writeByte a v).mem.wf = true :=
  Memory.wf_write h a v

/-! ## Locations -/

/-- Byte `n` of a location in a bank: the offset wraps in the bank (20_memory.md R69, R72, R73). -/
theorem Ea.inBank_byte (bank : Byte) (off : Word) (n : Nat) :
    (Ea.inBank bank off).byte n = bank ++ (off + BitVec.ofNat 16 n) := by
  unfold Ea.byte Ea.inBank LinearWrap.address
  generalize off + BitVec.ofNat 16 n = w
  have := bank.isLt
  have := w.isLt
  apply BitVec.eq_of_toNat_eq
  simp only [BitVec.toNat_append, BitVec.toNat_add, BitVec.toNat_setWidth]
  rw [← Nat.shiftLeft_add_eq_or_of_lt w.isLt, Nat.shiftLeft_eq]
  simp
  omega

/-- The two bytes of a word never lie at one address, whatever the base (20_memory.md R70, R73). -/
theorem Ea.byte_one_ne_zero (ea : Ea) : ea.byte 1 ≠ ea.byte 0 := by
  intro h
  have h1 := ea.wrap.address_low ea.base (ea.off + BitVec.ofNat 16 1)
  have h0 := ea.wrap.address_low ea.base (ea.off + BitVec.ofNat 16 0)
  rw [show ea.wrap.address ea.base (ea.off + BitVec.ofNat 16 1) = ea.byte 0 from h,
    show ea.byte 0 = ea.wrap.address ea.base (ea.off + BitVec.ofNat 16 0) from rfl, h0] at h1
  have := ea.off.isLt
  simp only [BitVec.toNat_add, BitVec.toNat_ofNat] at h1
  omega

/-- The byte at address `b` after a word store leaves it alone outside the word. -/
theorem State.readByte_write16_other (s : State) (ea : Ea) (v : Word) {b : Addr} (h : b ∉ ea.bytes16) :
    (s.write16 ea v).readByte b = s.readByte b := by
  simp only [Ea.bytes16, List.mem_cons, List.not_mem_nil, or_false, not_or] at h
  simp only [State.write16]
  rw [State.readByte_writeByte_other _ _ h.2, State.readByte_writeByte_other _ _ h.1]

/-- A byte store through a location leaves every other byte alone. -/
theorem State.readByte_write8_other (s : State) (ea : Ea) (v : Byte) {b : Addr} (h : b ∉ ea.bytes8) :
    (s.write8 ea v).readByte b = s.readByte b := by
  simp only [Ea.bytes8, List.mem_cons, List.not_mem_nil, or_false] at h
  exact State.readByte_writeByte_other _ _ h

/-- The halves of a word put together are the word. -/
theorem pair_hiByte_loByte (v : Word) : pair (hiByte v) (loByte v) = v := by
  apply BitVec.eq_of_getLsbD_eq
  intro i hi
  simp only [pair, hiByte, loByte, BitVec.getLsbD_append, BitVec.getLsbD_extractLsb']
  by_cases h : i < 8
  · simp [h]
  · simp [h, show i - 8 < 8 by omega, show 8 + (i - 8) = i by omega]

/-- The high byte of a pair. -/
@[simp] theorem hiByte_pair (hi lo : Byte) : hiByte (pair hi lo) = hi := by
  apply BitVec.eq_of_getLsbD_eq
  intro i h
  simp only [pair, hiByte, BitVec.getLsbD_append, BitVec.getLsbD_extractLsb']
  simp [h, show ¬ (8 + i < 8) by omega]

/-- The low byte of a pair. -/
@[simp] theorem loByte_pair (hi lo : Byte) : loByte (pair hi lo) = lo := by
  apply BitVec.eq_of_getLsbD_eq
  intro i h
  simp only [pair, loByte, BitVec.getLsbD_append, BitVec.getLsbD_extractLsb']
  simp [h]

/-- In a canonical memory a word reads as last stored. -/
theorem State.read16_write16_same (s : State) (h : s.mem.wf = true) (ea : Ea) (v : Word) :
    (s.write16 ea v).read16 ea = v := by
  have h1 := State.writeByte_wf s h (ea.byte 0) (loByte v)
  simp only [State.read16, State.write16]
  rw [State.readByte_writeByte_same _ h1, State.readByte_writeByte_other _ _ (Ea.byte_one_ne_zero ea).symm,
    State.readByte_writeByte_same _ h, pair_hiByte_loByte]

/-- In a canonical memory a byte reads as last stored through its location. -/
theorem State.read8_write8_same (s : State) (h : s.mem.wf = true) (ea : Ea) (v : Byte) :
    (s.write8 ea v).read8 ea = v :=
  State.readByte_writeByte_same s h (ea.byte 0) v

/-- A byte store through a location keeps the canonical form. -/
theorem State.write8_wf (s : State) (h : s.mem.wf = true) (ea : Ea) (v : Byte) : (s.write8 ea v).mem.wf = true :=
  State.writeByte_wf s h _ v

/-- A word store keeps the canonical form. -/
theorem State.write16_wf (s : State) (h : s.mem.wf = true) (ea : Ea) (v : Word) : (s.write16 ea v).mem.wf = true :=
  State.writeByte_wf _ (State.writeByte_wf s h _ _) _ _

/-- The memory an external reset leaves is canonical. -/
theorem State.resetEntry_mem_wf (s : State) : s.resetEntry.mem.wf = true := Memory.wf_ofCells _

/-! ## Alignment -/

/-- What `whenAligned` can do: it goes on, or, under `MISALIGNED` = `fault`, it stops at the odd location. -/
theorem whenAligned_cases (mode : Misaligned) (loc : Option Ea) (r : Result) :
    (whenAligned mode loc r = r ∧ (mode = .fault → ∀ ea, loc = some ea → ea.odd = false)) ∨
      ∃ ea, mode = .fault ∧ loc = some ea ∧ ea.odd = true ∧ whenAligned mode loc r = .fault (.misaligned ea.addr) := by
  cases mode with
  | split => exact .inl ⟨by cases loc <;> rfl, by simp⟩
  | fault =>
    cases loc with
    | none => exact .inl ⟨rfl, by simp⟩
    | some ea =>
      cases h : ea.odd
      · exact .inl ⟨by simp [whenAligned, h], by simp [h]⟩
      · exact .inr ⟨ea, rfl, rfl, h, by simp [whenAligned, h]⟩

/-- If an aligned-checked operation answers a next state, the check passed. -/
theorem whenAligned_next {mode : Misaligned} {loc : Option Ea} {r : Result} {t : State}
    (h : whenAligned mode loc r = .next t) :
    r = .next t ∧ (mode = .fault → ∀ ea, loc = some ea → ea.odd = false) := by
  rcases whenAligned_cases mode loc r with ⟨e, a⟩ | ⟨ea, _, _, _, e⟩
  · exact ⟨e ▸ h, a⟩
  · rw [e] at h; cases h

/-- A location that allows the access goes on. -/
theorem whenAligned_even {mode : Misaligned} {loc : Option Ea} (r : Result)
    (h : mode = .fault → ∀ ea, loc = some ea → ea.odd = false) : whenAligned mode loc r = r := by
  rcases whenAligned_cases mode loc r with ⟨e, _⟩ | ⟨ea, hm, he, ho, _⟩
  · exact e
  · rw [h hm ea he] at ho; cases ho

end Sys2Proof.Machine
end

