-- ==== Sys2Proof/Laws/State.lean ====
section
/-! SUPPORT. One lemma per field per update of State, so that no proof unfolds a record update; and what the registers
read after an update. -/

namespace Sys2Proof.Machine

/-! ## Even words -/

/-- A word with bit 0 clear is what its upper 15 bits and a zero make. -/
theorem extract_append_zero (v : Word) (h : v.getLsbD 0 = false) : v.extractLsb' 1 15 ++ 0#1 = v := by
  apply BitVec.eq_of_getLsbD_eq
  intro i hi
  simp only [BitVec.getLsbD_append, BitVec.getLsbD_extractLsb']
  by_cases h0 : i = 0
  · subst h0; simpa using h.symm
  · simp [show ¬ i < 1 by omega, show i - 1 < 15 by omega, show 1 + (i - 1) = i by omega]

/-- Bit 0 of SP reads 0. -/
@[simp] theorem State.sp_bit0 (s : State) : s.sp.getLsbD 0 = false := by
  rw [State.sp, BitVec.getLsbD_append]; rfl

/-- Bit 0 of PC reads 0. -/
@[simp] theorem State.pc_bit0 (s : State) : s.pc.getLsbD 0 = false := by
  rw [State.pc, BitVec.getLsbD_append]; rfl

/-- Two below an even word is even. -/
theorem sub_two_bit0 (v : Word) (h : v.getLsbD 0 = false) : (v - 2).getLsbD 0 = false := by
  have hv : v.toNat % 2 = 0 := by
    have := h
    rw [BitVec.getLsbD, Nat.testBit_zero] at this
    simpa using this
  rw [BitVec.getLsbD, Nat.testBit_zero, BitVec.toNat_sub]
  have := v.isLt
  simp
  omega

/-- Two above an even word is even. -/
theorem add_two_bit0 (v : Word) (h : v.getLsbD 0 = false) : (v + 2).getLsbD 0 = false := by
  have hv : v.toNat % 2 = 0 := by
    have := h
    rw [BitVec.getLsbD, Nat.testBit_zero] at this
    simpa using this
  rw [BitVec.getLsbD, Nat.testBit_zero, BitVec.toNat_add]
  have := v.isLt
  simp
  omega

/-! ## `setSp` -/

@[simp] theorem State.setSp_regs (s : State) (v : Word) : (s.setSp v).regs = s.regs := rfl
@[simp] theorem State.setSp_shadow (s : State) (v : Word) : (s.setSp v).shadow = s.shadow := rfl
@[simp] theorem State.setSp_spHi (s : State) (v : Word) : (s.setSp v).spHi = s.params.oddWrite.stored s.spHi v := rfl
@[simp] theorem State.setSp_pcHi (s : State) (v : Word) : (s.setSp v).pcHi = s.pcHi := rfl
@[simp] theorem State.setSp_k (s : State) (v : Word) : (s.setSp v).k = s.k := rfl
@[simp] theorem State.setSp_f (s : State) (v : Word) : (s.setSp v).f = s.f := rfl
@[simp] theorem State.setSp_fShadow (s : State) (v : Word) : (s.setSp v).fShadow = s.fShadow := rfl
@[simp] theorem State.setSp_e (s : State) (v : Word) : (s.setSp v).e = s.e := rfl
@[simp] theorem State.setSp_run (s : State) (v : Word) : (s.setSp v).run = s.run := rfl
@[simp] theorem State.setSp_mem (s : State) (v : Word) : (s.setSp v).mem = s.mem := rfl
@[simp] theorem State.setSp_inputs (s : State) (v : Word) : (s.setSp v).inputs = s.inputs := rfl
@[simp] theorem State.setSp_portAnswers (s : State) (v : Word) : (s.setSp v).portAnswers = s.portAnswers := rfl
@[simp] theorem State.setSp_ioLog (s : State) (v : Word) : (s.setSp v).ioLog = s.ioLog := rfl
@[simp] theorem State.setSp_fresh (s : State) (v : Word) : (s.setSp v).fresh = s.fresh := rfl
@[simp] theorem State.setSp_handlers (s : State) (v : Word) : (s.setSp v).handlers = s.handlers := rfl
@[simp] theorem State.setSp_illegalMode (s : State) (v : Word) : (s.setSp v).illegalMode = s.illegalMode := rfl
@[simp] theorem State.setSp_params (s : State) (v : Word) : (s.setSp v).params = s.params := rfl

/-! ## `setPc` -/

@[simp] theorem State.setPc_regs (s : State) (v : Word) : (s.setPc v).regs = s.regs := rfl
@[simp] theorem State.setPc_shadow (s : State) (v : Word) : (s.setPc v).shadow = s.shadow := rfl
@[simp] theorem State.setPc_spHi (s : State) (v : Word) : (s.setPc v).spHi = s.spHi := rfl
@[simp] theorem State.setPc_pcHi (s : State) (v : Word) : (s.setPc v).pcHi = s.params.oddWrite.stored s.pcHi v := rfl
@[simp] theorem State.setPc_k (s : State) (v : Word) : (s.setPc v).k = s.k := rfl
@[simp] theorem State.setPc_f (s : State) (v : Word) : (s.setPc v).f = s.f := rfl
@[simp] theorem State.setPc_fShadow (s : State) (v : Word) : (s.setPc v).fShadow = s.fShadow := rfl
@[simp] theorem State.setPc_e (s : State) (v : Word) : (s.setPc v).e = s.e := rfl
@[simp] theorem State.setPc_run (s : State) (v : Word) : (s.setPc v).run = s.run := rfl
@[simp] theorem State.setPc_mem (s : State) (v : Word) : (s.setPc v).mem = s.mem := rfl
@[simp] theorem State.setPc_inputs (s : State) (v : Word) : (s.setPc v).inputs = s.inputs := rfl
@[simp] theorem State.setPc_portAnswers (s : State) (v : Word) : (s.setPc v).portAnswers = s.portAnswers := rfl
@[simp] theorem State.setPc_ioLog (s : State) (v : Word) : (s.setPc v).ioLog = s.ioLog := rfl
@[simp] theorem State.setPc_fresh (s : State) (v : Word) : (s.setPc v).fresh = s.fresh := rfl
@[simp] theorem State.setPc_handlers (s : State) (v : Word) : (s.setPc v).handlers = s.handlers := rfl
@[simp] theorem State.setPc_illegalMode (s : State) (v : Word) : (s.setPc v).illegalMode = s.illegalMode := rfl
@[simp] theorem State.setPc_params (s : State) (v : Word) : (s.setPc v).params = s.params := rfl

/-! ## `setK` -/

@[simp] theorem State.setK_regs (s : State) (v : Byte) : (s.setK v).regs = s.regs := rfl
@[simp] theorem State.setK_shadow (s : State) (v : Byte) : (s.setK v).shadow = s.shadow := rfl
@[simp] theorem State.setK_spHi (s : State) (v : Byte) : (s.setK v).spHi = s.spHi := rfl
@[simp] theorem State.setK_pcHi (s : State) (v : Byte) : (s.setK v).pcHi = s.pcHi := rfl
@[simp] theorem State.setK_k (s : State) (v : Byte) : (s.setK v).k = v := rfl
@[simp] theorem State.setK_f (s : State) (v : Byte) : (s.setK v).f = s.f := rfl
@[simp] theorem State.setK_fShadow (s : State) (v : Byte) : (s.setK v).fShadow = s.fShadow := rfl
@[simp] theorem State.setK_e (s : State) (v : Byte) : (s.setK v).e = s.e := rfl
@[simp] theorem State.setK_run (s : State) (v : Byte) : (s.setK v).run = s.run := rfl
@[simp] theorem State.setK_mem (s : State) (v : Byte) : (s.setK v).mem = s.mem := rfl
@[simp] theorem State.setK_inputs (s : State) (v : Byte) : (s.setK v).inputs = s.inputs := rfl
@[simp] theorem State.setK_portAnswers (s : State) (v : Byte) : (s.setK v).portAnswers = s.portAnswers := rfl
@[simp] theorem State.setK_ioLog (s : State) (v : Byte) : (s.setK v).ioLog = s.ioLog := rfl
@[simp] theorem State.setK_fresh (s : State) (v : Byte) : (s.setK v).fresh = s.fresh := rfl
@[simp] theorem State.setK_handlers (s : State) (v : Byte) : (s.setK v).handlers = s.handlers := rfl
@[simp] theorem State.setK_illegalMode (s : State) (v : Byte) : (s.setK v).illegalMode = s.illegalMode := rfl
@[simp] theorem State.setK_params (s : State) (v : Byte) : (s.setK v).params = s.params := rfl

/-! ## `setF` -/

@[simp] theorem State.setF_regs (s : State) (g : Flags) : (s.setF g).regs = s.regs := rfl
@[simp] theorem State.setF_shadow (s : State) (g : Flags) : (s.setF g).shadow = s.shadow := rfl
@[simp] theorem State.setF_spHi (s : State) (g : Flags) : (s.setF g).spHi = s.spHi := rfl
@[simp] theorem State.setF_pcHi (s : State) (g : Flags) : (s.setF g).pcHi = s.pcHi := rfl
@[simp] theorem State.setF_k (s : State) (g : Flags) : (s.setF g).k = s.k := rfl
@[simp] theorem State.setF_f (s : State) (g : Flags) : (s.setF g).f = g := rfl
@[simp] theorem State.setF_fShadow (s : State) (g : Flags) : (s.setF g).fShadow = s.fShadow := rfl
@[simp] theorem State.setF_e (s : State) (g : Flags) : (s.setF g).e = s.e := rfl
@[simp] theorem State.setF_run (s : State) (g : Flags) : (s.setF g).run = s.run := rfl
@[simp] theorem State.setF_mem (s : State) (g : Flags) : (s.setF g).mem = s.mem := rfl
@[simp] theorem State.setF_inputs (s : State) (g : Flags) : (s.setF g).inputs = s.inputs := rfl
@[simp] theorem State.setF_portAnswers (s : State) (g : Flags) : (s.setF g).portAnswers = s.portAnswers := rfl
@[simp] theorem State.setF_ioLog (s : State) (g : Flags) : (s.setF g).ioLog = s.ioLog := rfl
@[simp] theorem State.setF_fresh (s : State) (g : Flags) : (s.setF g).fresh = s.fresh := rfl
@[simp] theorem State.setF_handlers (s : State) (g : Flags) : (s.setF g).handlers = s.handlers := rfl
@[simp] theorem State.setF_illegalMode (s : State) (g : Flags) : (s.setF g).illegalMode = s.illegalMode := rfl
@[simp] theorem State.setF_params (s : State) (g : Flags) : (s.setF g).params = s.params := rfl

/-! ## `setKf` -/

@[simp] theorem State.setKf_regs (s : State) (w : Word) : (s.setKf w).regs = s.regs := rfl
@[simp] theorem State.setKf_shadow (s : State) (w : Word) : (s.setKf w).shadow = s.shadow := rfl
@[simp] theorem State.setKf_spHi (s : State) (w : Word) : (s.setKf w).spHi = s.spHi := rfl
@[simp] theorem State.setKf_pcHi (s : State) (w : Word) : (s.setKf w).pcHi = s.pcHi := rfl
@[simp] theorem State.setKf_k (s : State) (w : Word) : (s.setKf w).k = hiByte w := rfl
@[simp] theorem State.setKf_f (s : State) (w : Word) : (s.setKf w).f = Flags.ofByte (loByte w) := rfl
@[simp] theorem State.setKf_fShadow (s : State) (w : Word) : (s.setKf w).fShadow = s.fShadow := rfl
@[simp] theorem State.setKf_e (s : State) (w : Word) : (s.setKf w).e = s.e := rfl
@[simp] theorem State.setKf_run (s : State) (w : Word) : (s.setKf w).run = s.run := rfl
@[simp] theorem State.setKf_mem (s : State) (w : Word) : (s.setKf w).mem = s.mem := rfl
@[simp] theorem State.setKf_inputs (s : State) (w : Word) : (s.setKf w).inputs = s.inputs := rfl
@[simp] theorem State.setKf_portAnswers (s : State) (w : Word) : (s.setKf w).portAnswers = s.portAnswers := rfl
@[simp] theorem State.setKf_ioLog (s : State) (w : Word) : (s.setKf w).ioLog = s.ioLog := rfl
@[simp] theorem State.setKf_fresh (s : State) (w : Word) : (s.setKf w).fresh = s.fresh := rfl
@[simp] theorem State.setKf_handlers (s : State) (w : Word) : (s.setKf w).handlers = s.handlers := rfl
@[simp] theorem State.setKf_illegalMode (s : State) (w : Word) : (s.setKf w).illegalMode = s.illegalMode := rfl
@[simp] theorem State.setKf_params (s : State) (w : Word) : (s.setKf w).params = s.params := rfl

/-! ## `setC` -/

@[simp] theorem State.setC_regs (s : State) (v : Byte) : (s.setC v).regs = { s.regs with c := v } := rfl
@[simp] theorem State.setC_shadow (s : State) (v : Byte) : (s.setC v).shadow = s.shadow := rfl
@[simp] theorem State.setC_spHi (s : State) (v : Byte) : (s.setC v).spHi = s.spHi := rfl
@[simp] theorem State.setC_pcHi (s : State) (v : Byte) : (s.setC v).pcHi = s.pcHi := rfl
@[simp] theorem State.setC_k (s : State) (v : Byte) : (s.setC v).k = s.k := rfl
@[simp] theorem State.setC_f (s : State) (v : Byte) : (s.setC v).f = s.f := rfl
@[simp] theorem State.setC_fShadow (s : State) (v : Byte) : (s.setC v).fShadow = s.fShadow := rfl
@[simp] theorem State.setC_e (s : State) (v : Byte) : (s.setC v).e = s.e := rfl
@[simp] theorem State.setC_run (s : State) (v : Byte) : (s.setC v).run = s.run := rfl
@[simp] theorem State.setC_mem (s : State) (v : Byte) : (s.setC v).mem = s.mem := rfl
@[simp] theorem State.setC_inputs (s : State) (v : Byte) : (s.setC v).inputs = s.inputs := rfl
@[simp] theorem State.setC_portAnswers (s : State) (v : Byte) : (s.setC v).portAnswers = s.portAnswers := rfl
@[simp] theorem State.setC_ioLog (s : State) (v : Byte) : (s.setC v).ioLog = s.ioLog := rfl
@[simp] theorem State.setC_fresh (s : State) (v : Byte) : (s.setC v).fresh = s.fresh := rfl
@[simp] theorem State.setC_handlers (s : State) (v : Byte) : (s.setC v).handlers = s.handlers := rfl
@[simp] theorem State.setC_illegalMode (s : State) (v : Byte) : (s.setC v).illegalMode = s.illegalMode := rfl
@[simp] theorem State.setC_params (s : State) (v : Byte) : (s.setC v).params = s.params := rfl

/-! ## `setE` -/

@[simp] theorem State.setE_regs (s : State) (v : Byte) : (s.setE v).regs = s.regs := rfl
@[simp] theorem State.setE_shadow (s : State) (v : Byte) : (s.setE v).shadow = s.shadow := rfl
@[simp] theorem State.setE_spHi (s : State) (v : Byte) : (s.setE v).spHi = s.spHi := rfl
@[simp] theorem State.setE_pcHi (s : State) (v : Byte) : (s.setE v).pcHi = s.pcHi := rfl
@[simp] theorem State.setE_k (s : State) (v : Byte) : (s.setE v).k = s.k := rfl
@[simp] theorem State.setE_f (s : State) (v : Byte) : (s.setE v).f = s.f := rfl
@[simp] theorem State.setE_fShadow (s : State) (v : Byte) : (s.setE v).fShadow = s.fShadow := rfl
@[simp] theorem State.setE_e (s : State) (v : Byte) : (s.setE v).e = v := rfl
@[simp] theorem State.setE_run (s : State) (v : Byte) : (s.setE v).run = s.run := rfl
@[simp] theorem State.setE_mem (s : State) (v : Byte) : (s.setE v).mem = s.mem := rfl
@[simp] theorem State.setE_inputs (s : State) (v : Byte) : (s.setE v).inputs = s.inputs := rfl
@[simp] theorem State.setE_portAnswers (s : State) (v : Byte) : (s.setE v).portAnswers = s.portAnswers := rfl
@[simp] theorem State.setE_ioLog (s : State) (v : Byte) : (s.setE v).ioLog = s.ioLog := rfl
@[simp] theorem State.setE_fresh (s : State) (v : Byte) : (s.setE v).fresh = s.fresh := rfl
@[simp] theorem State.setE_handlers (s : State) (v : Byte) : (s.setE v).handlers = s.handlers := rfl
@[simp] theorem State.setE_illegalMode (s : State) (v : Byte) : (s.setE v).illegalMode = s.illegalMode := rfl
@[simp] theorem State.setE_params (s : State) (v : Byte) : (s.setE v).params = s.params := rfl

/-! ## `drawn` -/

@[simp] theorem State.drawn_regs (s : State) : (s.drawn).regs = s.regs := rfl
@[simp] theorem State.drawn_shadow (s : State) : (s.drawn).shadow = s.shadow := rfl
@[simp] theorem State.drawn_spHi (s : State) : (s.drawn).spHi = s.spHi := rfl
@[simp] theorem State.drawn_pcHi (s : State) : (s.drawn).pcHi = s.pcHi := rfl
@[simp] theorem State.drawn_k (s : State) : (s.drawn).k = s.k := rfl
@[simp] theorem State.drawn_f (s : State) : (s.drawn).f = s.f := rfl
@[simp] theorem State.drawn_fShadow (s : State) : (s.drawn).fShadow = s.fShadow := rfl
@[simp] theorem State.drawn_e (s : State) : (s.drawn).e = s.e := rfl
@[simp] theorem State.drawn_run (s : State) : (s.drawn).run = s.run := rfl
@[simp] theorem State.drawn_mem (s : State) : (s.drawn).mem = s.mem := rfl
@[simp] theorem State.drawn_inputs (s : State) : (s.drawn).inputs = s.inputs := rfl
@[simp] theorem State.drawn_portAnswers (s : State) : (s.drawn).portAnswers = s.portAnswers := rfl
@[simp] theorem State.drawn_ioLog (s : State) : (s.drawn).ioLog = s.ioLog := rfl
@[simp] theorem State.drawn_fresh (s : State) : (s.drawn).fresh = s.fresh + 1 := rfl
@[simp] theorem State.drawn_handlers (s : State) : (s.drawn).handlers = s.handlers := rfl
@[simp] theorem State.drawn_illegalMode (s : State) : (s.drawn).illegalMode = s.illegalMode := rfl
@[simp] theorem State.drawn_params (s : State) : (s.drawn).params = s.params := rfl

/-! ## `drawA` -/

@[simp] theorem State.drawA_regs (s : State) : (s.drawA).regs = s.regs := rfl
@[simp] theorem State.drawA_shadow (s : State) : (s.drawA).shadow = s.shadow := rfl
@[simp] theorem State.drawA_spHi (s : State) : (s.drawA).spHi = s.spHi := rfl
@[simp] theorem State.drawA_pcHi (s : State) : (s.drawA).pcHi = s.pcHi := rfl
@[simp] theorem State.drawA_k (s : State) : (s.drawA).k = s.k := rfl
@[simp] theorem State.drawA_f (s : State) : (s.drawA).f = { s.f with a := s.freeBit } := rfl
@[simp] theorem State.drawA_fShadow (s : State) : (s.drawA).fShadow = s.fShadow := rfl
@[simp] theorem State.drawA_e (s : State) : (s.drawA).e = s.e := rfl
@[simp] theorem State.drawA_run (s : State) : (s.drawA).run = s.run := rfl
@[simp] theorem State.drawA_mem (s : State) : (s.drawA).mem = s.mem := rfl
@[simp] theorem State.drawA_inputs (s : State) : (s.drawA).inputs = s.inputs := rfl
@[simp] theorem State.drawA_portAnswers (s : State) : (s.drawA).portAnswers = s.portAnswers := rfl
@[simp] theorem State.drawA_ioLog (s : State) : (s.drawA).ioLog = s.ioLog := rfl
@[simp] theorem State.drawA_fresh (s : State) : (s.drawA).fresh = s.fresh + 1 := rfl
@[simp] theorem State.drawA_handlers (s : State) : (s.drawA).handlers = s.handlers := rfl
@[simp] theorem State.drawA_illegalMode (s : State) : (s.drawA).illegalMode = s.illegalMode := rfl
@[simp] theorem State.drawA_params (s : State) : (s.drawA).params = s.params := rfl

/-! ## `portWrite` -/

@[simp] theorem State.portWrite_regs (s : State) (v : Byte) : (s.portWrite v).regs = s.regs := rfl
@[simp] theorem State.portWrite_shadow (s : State) (v : Byte) : (s.portWrite v).shadow = s.shadow := rfl
@[simp] theorem State.portWrite_spHi (s : State) (v : Byte) : (s.portWrite v).spHi = s.spHi := rfl
@[simp] theorem State.portWrite_pcHi (s : State) (v : Byte) : (s.portWrite v).pcHi = s.pcHi := rfl
@[simp] theorem State.portWrite_k (s : State) (v : Byte) : (s.portWrite v).k = s.k := rfl
@[simp] theorem State.portWrite_f (s : State) (v : Byte) : (s.portWrite v).f = s.f := rfl
@[simp] theorem State.portWrite_fShadow (s : State) (v : Byte) : (s.portWrite v).fShadow = s.fShadow := rfl
@[simp] theorem State.portWrite_e (s : State) (v : Byte) : (s.portWrite v).e = s.e := rfl
@[simp] theorem State.portWrite_run (s : State) (v : Byte) : (s.portWrite v).run = s.run := rfl
@[simp] theorem State.portWrite_mem (s : State) (v : Byte) : (s.portWrite v).mem = s.mem := rfl
@[simp] theorem State.portWrite_inputs (s : State) (v : Byte) : (s.portWrite v).inputs = s.inputs := rfl
@[simp] theorem State.portWrite_portAnswers (s : State) (v : Byte) : (s.portWrite v).portAnswers = s.portAnswers := rfl
@[simp] theorem State.portWrite_ioLog (s : State) (v : Byte) : (s.portWrite v).ioLog = .write s.regs.c v :: s.ioLog := rfl
@[simp] theorem State.portWrite_fresh (s : State) (v : Byte) : (s.portWrite v).fresh = s.fresh := rfl
@[simp] theorem State.portWrite_handlers (s : State) (v : Byte) : (s.portWrite v).handlers = s.handlers := rfl
@[simp] theorem State.portWrite_illegalMode (s : State) (v : Byte) : (s.portWrite v).illegalMode = s.illegalMode := rfl
@[simp] theorem State.portWrite_params (s : State) (v : Byte) : (s.portWrite v).params = s.params := rfl

/-! ## `writeByte` -/

@[simp] theorem State.writeByte_regs (s : State) (a : Addr) (v : Byte) : (s.writeByte a v).regs = s.regs := rfl
@[simp] theorem State.writeByte_shadow (s : State) (a : Addr) (v : Byte) : (s.writeByte a v).shadow = s.shadow := rfl
@[simp] theorem State.writeByte_spHi (s : State) (a : Addr) (v : Byte) : (s.writeByte a v).spHi = s.spHi := rfl
@[simp] theorem State.writeByte_pcHi (s : State) (a : Addr) (v : Byte) : (s.writeByte a v).pcHi = s.pcHi := rfl
@[simp] theorem State.writeByte_k (s : State) (a : Addr) (v : Byte) : (s.writeByte a v).k = s.k := rfl
@[simp] theorem State.writeByte_f (s : State) (a : Addr) (v : Byte) : (s.writeByte a v).f = s.f := rfl
@[simp] theorem State.writeByte_fShadow (s : State) (a : Addr) (v : Byte) : (s.writeByte a v).fShadow = s.fShadow := rfl
@[simp] theorem State.writeByte_e (s : State) (a : Addr) (v : Byte) : (s.writeByte a v).e = s.e := rfl
@[simp] theorem State.writeByte_run (s : State) (a : Addr) (v : Byte) : (s.writeByte a v).run = s.run := rfl
@[simp] theorem State.writeByte_mem (s : State) (a : Addr) (v : Byte) : (s.writeByte a v).mem = s.mem.write a.toNat v := rfl
@[simp] theorem State.writeByte_inputs (s : State) (a : Addr) (v : Byte) : (s.writeByte a v).inputs = s.inputs := rfl
@[simp] theorem State.writeByte_portAnswers (s : State) (a : Addr) (v : Byte) : (s.writeByte a v).portAnswers = s.portAnswers := rfl
@[simp] theorem State.writeByte_ioLog (s : State) (a : Addr) (v : Byte) : (s.writeByte a v).ioLog = s.ioLog := rfl
@[simp] theorem State.writeByte_fresh (s : State) (a : Addr) (v : Byte) : (s.writeByte a v).fresh = s.fresh := rfl
@[simp] theorem State.writeByte_handlers (s : State) (a : Addr) (v : Byte) : (s.writeByte a v).handlers = s.handlers := rfl
@[simp] theorem State.writeByte_illegalMode (s : State) (a : Addr) (v : Byte) : (s.writeByte a v).illegalMode = s.illegalMode := rfl
@[simp] theorem State.writeByte_params (s : State) (a : Addr) (v : Byte) : (s.writeByte a v).params = s.params := rfl

/-! ## `write8` -/

@[simp] theorem State.write8_regs (s : State) (ea : Ea) (v : Byte) : (s.write8 ea v).regs = s.regs := rfl
@[simp] theorem State.write8_shadow (s : State) (ea : Ea) (v : Byte) : (s.write8 ea v).shadow = s.shadow := rfl
@[simp] theorem State.write8_spHi (s : State) (ea : Ea) (v : Byte) : (s.write8 ea v).spHi = s.spHi := rfl
@[simp] theorem State.write8_pcHi (s : State) (ea : Ea) (v : Byte) : (s.write8 ea v).pcHi = s.pcHi := rfl
@[simp] theorem State.write8_k (s : State) (ea : Ea) (v : Byte) : (s.write8 ea v).k = s.k := rfl
@[simp] theorem State.write8_f (s : State) (ea : Ea) (v : Byte) : (s.write8 ea v).f = s.f := rfl
@[simp] theorem State.write8_fShadow (s : State) (ea : Ea) (v : Byte) : (s.write8 ea v).fShadow = s.fShadow := rfl
@[simp] theorem State.write8_e (s : State) (ea : Ea) (v : Byte) : (s.write8 ea v).e = s.e := rfl
@[simp] theorem State.write8_run (s : State) (ea : Ea) (v : Byte) : (s.write8 ea v).run = s.run := rfl
@[simp] theorem State.write8_mem (s : State) (ea : Ea) (v : Byte) : (s.write8 ea v).mem = s.mem.write (ea.byte 0).toNat v := rfl
@[simp] theorem State.write8_inputs (s : State) (ea : Ea) (v : Byte) : (s.write8 ea v).inputs = s.inputs := rfl
@[simp] theorem State.write8_portAnswers (s : State) (ea : Ea) (v : Byte) : (s.write8 ea v).portAnswers = s.portAnswers := rfl
@[simp] theorem State.write8_ioLog (s : State) (ea : Ea) (v : Byte) : (s.write8 ea v).ioLog = s.ioLog := rfl
@[simp] theorem State.write8_fresh (s : State) (ea : Ea) (v : Byte) : (s.write8 ea v).fresh = s.fresh := rfl
@[simp] theorem State.write8_handlers (s : State) (ea : Ea) (v : Byte) : (s.write8 ea v).handlers = s.handlers := rfl
@[simp] theorem State.write8_illegalMode (s : State) (ea : Ea) (v : Byte) : (s.write8 ea v).illegalMode = s.illegalMode := rfl
@[simp] theorem State.write8_params (s : State) (ea : Ea) (v : Byte) : (s.write8 ea v).params = s.params := rfl

/-! ## `write16` -/

@[simp] theorem State.write16_regs (s : State) (ea : Ea) (v : Word) : (s.write16 ea v).regs = s.regs := rfl
@[simp] theorem State.write16_shadow (s : State) (ea : Ea) (v : Word) : (s.write16 ea v).shadow = s.shadow := rfl
@[simp] theorem State.write16_spHi (s : State) (ea : Ea) (v : Word) : (s.write16 ea v).spHi = s.spHi := rfl
@[simp] theorem State.write16_pcHi (s : State) (ea : Ea) (v : Word) : (s.write16 ea v).pcHi = s.pcHi := rfl
@[simp] theorem State.write16_k (s : State) (ea : Ea) (v : Word) : (s.write16 ea v).k = s.k := rfl
@[simp] theorem State.write16_f (s : State) (ea : Ea) (v : Word) : (s.write16 ea v).f = s.f := rfl
@[simp] theorem State.write16_fShadow (s : State) (ea : Ea) (v : Word) : (s.write16 ea v).fShadow = s.fShadow := rfl
@[simp] theorem State.write16_e (s : State) (ea : Ea) (v : Word) : (s.write16 ea v).e = s.e := rfl
@[simp] theorem State.write16_run (s : State) (ea : Ea) (v : Word) : (s.write16 ea v).run = s.run := rfl
@[simp] theorem State.write16_mem (s : State) (ea : Ea) (v : Word) : (s.write16 ea v).mem = (s.mem.write (ea.byte 0).toNat (loByte v)).write (ea.byte 1).toNat (hiByte v) := rfl
@[simp] theorem State.write16_inputs (s : State) (ea : Ea) (v : Word) : (s.write16 ea v).inputs = s.inputs := rfl
@[simp] theorem State.write16_portAnswers (s : State) (ea : Ea) (v : Word) : (s.write16 ea v).portAnswers = s.portAnswers := rfl
@[simp] theorem State.write16_ioLog (s : State) (ea : Ea) (v : Word) : (s.write16 ea v).ioLog = s.ioLog := rfl
@[simp] theorem State.write16_fresh (s : State) (ea : Ea) (v : Word) : (s.write16 ea v).fresh = s.fresh := rfl
@[simp] theorem State.write16_handlers (s : State) (ea : Ea) (v : Word) : (s.write16 ea v).handlers = s.handlers := rfl
@[simp] theorem State.write16_illegalMode (s : State) (ea : Ea) (v : Word) : (s.write16 ea v).illegalMode = s.illegalMode := rfl
@[simp] theorem State.write16_params (s : State) (ea : Ea) (v : Word) : (s.write16 ea v).params = s.params := rfl

/-! ## `popped` -/

@[simp] theorem State.popped_regs (s : State) : (s.popped).regs = s.regs := rfl
@[simp] theorem State.popped_shadow (s : State) : (s.popped).shadow = s.shadow := rfl
@[simp] theorem State.popped_spHi (s : State) : (s.popped).spHi = (s.sp + 2).extractLsb' 1 15 := OddWrite.stored_even _ _ (add_two_bit0 _ s.sp_bit0)
@[simp] theorem State.popped_pcHi (s : State) : (s.popped).pcHi = s.pcHi := rfl
@[simp] theorem State.popped_k (s : State) : (s.popped).k = s.k := rfl
@[simp] theorem State.popped_f (s : State) : (s.popped).f = s.f := rfl
@[simp] theorem State.popped_fShadow (s : State) : (s.popped).fShadow = s.fShadow := rfl
@[simp] theorem State.popped_e (s : State) : (s.popped).e = s.e := rfl
@[simp] theorem State.popped_run (s : State) : (s.popped).run = s.run := rfl
@[simp] theorem State.popped_mem (s : State) : (s.popped).mem = s.mem := rfl
@[simp] theorem State.popped_inputs (s : State) : (s.popped).inputs = s.inputs := rfl
@[simp] theorem State.popped_portAnswers (s : State) : (s.popped).portAnswers = s.portAnswers := rfl
@[simp] theorem State.popped_ioLog (s : State) : (s.popped).ioLog = s.ioLog := rfl
@[simp] theorem State.popped_fresh (s : State) : (s.popped).fresh = s.fresh := rfl
@[simp] theorem State.popped_handlers (s : State) : (s.popped).handlers = s.handlers := rfl
@[simp] theorem State.popped_illegalMode (s : State) : (s.popped).illegalMode = s.illegalMode := rfl
@[simp] theorem State.popped_params (s : State) : (s.popped).params = s.params := rfl

/-! ## `push16` -/

@[simp] theorem State.push16_regs (s : State) (v : Word) : (s.push16 v).regs = s.regs := rfl
@[simp] theorem State.push16_shadow (s : State) (v : Word) : (s.push16 v).shadow = s.shadow := rfl
@[simp] theorem State.push16_spHi (s : State) (v : Word) : (s.push16 v).spHi = (s.sp - 2).extractLsb' 1 15 := OddWrite.stored_even _ _ (sub_two_bit0 _ s.sp_bit0)
@[simp] theorem State.push16_pcHi (s : State) (v : Word) : (s.push16 v).pcHi = s.pcHi := rfl
@[simp] theorem State.push16_k (s : State) (v : Word) : (s.push16 v).k = s.k := rfl
@[simp] theorem State.push16_f (s : State) (v : Word) : (s.push16 v).f = s.f := rfl
@[simp] theorem State.push16_fShadow (s : State) (v : Word) : (s.push16 v).fShadow = s.fShadow := rfl
@[simp] theorem State.push16_e (s : State) (v : Word) : (s.push16 v).e = s.e := rfl
@[simp] theorem State.push16_run (s : State) (v : Word) : (s.push16 v).run = s.run := rfl
@[simp] theorem State.push16_mem (s : State) (v : Word) : (s.push16 v).mem = ((s.write16 (Ea.bank0 (s.sp - 2)) v).mem) := rfl
@[simp] theorem State.push16_inputs (s : State) (v : Word) : (s.push16 v).inputs = s.inputs := rfl
@[simp] theorem State.push16_portAnswers (s : State) (v : Word) : (s.push16 v).portAnswers = s.portAnswers := rfl
@[simp] theorem State.push16_ioLog (s : State) (v : Word) : (s.push16 v).ioLog = s.ioLog := rfl
@[simp] theorem State.push16_fresh (s : State) (v : Word) : (s.push16 v).fresh = s.fresh := rfl
@[simp] theorem State.push16_handlers (s : State) (v : Word) : (s.push16 v).handlers = s.handlers := rfl
@[simp] theorem State.push16_illegalMode (s : State) (v : Word) : (s.push16 v).illegalMode = s.illegalMode := rfl
@[simp] theorem State.push16_params (s : State) (v : Word) : (s.push16 v).params = s.params := rfl

/-! ## `setReg8` -/

@[simp] theorem State.setReg8_shadow (s : State) (r : Reg8) (v : Byte) : (s.setReg8 r v).shadow = s.shadow := by cases r <;> rfl
@[simp] theorem State.setReg8_spHi (s : State) (r : Reg8) (v : Byte) : (s.setReg8 r v).spHi = s.spHi := by cases r <;> rfl
@[simp] theorem State.setReg8_pcHi (s : State) (r : Reg8) (v : Byte) : (s.setReg8 r v).pcHi = s.pcHi := by cases r <;> rfl
@[simp] theorem State.setReg8_k (s : State) (r : Reg8) (v : Byte) : (s.setReg8 r v).k = s.k := by cases r <;> rfl
@[simp] theorem State.setReg8_f (s : State) (r : Reg8) (v : Byte) : (s.setReg8 r v).f = s.f := by cases r <;> rfl
@[simp] theorem State.setReg8_fShadow (s : State) (r : Reg8) (v : Byte) : (s.setReg8 r v).fShadow = s.fShadow := by cases r <;> rfl
@[simp] theorem State.setReg8_e (s : State) (r : Reg8) (v : Byte) : (s.setReg8 r v).e = s.e := by cases r <;> rfl
@[simp] theorem State.setReg8_run (s : State) (r : Reg8) (v : Byte) : (s.setReg8 r v).run = s.run := by cases r <;> rfl
@[simp] theorem State.setReg8_mem (s : State) (r : Reg8) (v : Byte) : (s.setReg8 r v).mem = s.mem := by cases r <;> rfl
@[simp] theorem State.setReg8_inputs (s : State) (r : Reg8) (v : Byte) : (s.setReg8 r v).inputs = s.inputs := by cases r <;> rfl
@[simp] theorem State.setReg8_portAnswers (s : State) (r : Reg8) (v : Byte) : (s.setReg8 r v).portAnswers = s.portAnswers := by cases r <;> rfl
@[simp] theorem State.setReg8_ioLog (s : State) (r : Reg8) (v : Byte) : (s.setReg8 r v).ioLog = s.ioLog := by cases r <;> rfl
@[simp] theorem State.setReg8_fresh (s : State) (r : Reg8) (v : Byte) : (s.setReg8 r v).fresh = s.fresh := by cases r <;> rfl
@[simp] theorem State.setReg8_handlers (s : State) (r : Reg8) (v : Byte) : (s.setReg8 r v).handlers = s.handlers := by cases r <;> rfl
@[simp] theorem State.setReg8_illegalMode (s : State) (r : Reg8) (v : Byte) : (s.setReg8 r v).illegalMode = s.illegalMode := by cases r <;> rfl
@[simp] theorem State.setReg8_params (s : State) (r : Reg8) (v : Byte) : (s.setReg8 r v).params = s.params := by cases r <;> rfl

/-! ## `setReg16` -/

@[simp] theorem State.setReg16_shadow (s : State) (r : Reg16) (v : Word) : (s.setReg16 r v).shadow = s.shadow := by cases r <;> rfl
@[simp] theorem State.setReg16_pcHi (s : State) (r : Reg16) (v : Word) : (s.setReg16 r v).pcHi = s.pcHi := by cases r <;> rfl
@[simp] theorem State.setReg16_k (s : State) (r : Reg16) (v : Word) : (s.setReg16 r v).k = s.k := by cases r <;> rfl
@[simp] theorem State.setReg16_f (s : State) (r : Reg16) (v : Word) : (s.setReg16 r v).f = s.f := by cases r <;> rfl
@[simp] theorem State.setReg16_fShadow (s : State) (r : Reg16) (v : Word) : (s.setReg16 r v).fShadow = s.fShadow := by cases r <;> rfl
@[simp] theorem State.setReg16_e (s : State) (r : Reg16) (v : Word) : (s.setReg16 r v).e = s.e := by cases r <;> rfl
@[simp] theorem State.setReg16_run (s : State) (r : Reg16) (v : Word) : (s.setReg16 r v).run = s.run := by cases r <;> rfl
@[simp] theorem State.setReg16_mem (s : State) (r : Reg16) (v : Word) : (s.setReg16 r v).mem = s.mem := by cases r <;> rfl
@[simp] theorem State.setReg16_inputs (s : State) (r : Reg16) (v : Word) : (s.setReg16 r v).inputs = s.inputs := by cases r <;> rfl
@[simp] theorem State.setReg16_portAnswers (s : State) (r : Reg16) (v : Word) : (s.setReg16 r v).portAnswers = s.portAnswers := by cases r <;> rfl
@[simp] theorem State.setReg16_ioLog (s : State) (r : Reg16) (v : Word) : (s.setReg16 r v).ioLog = s.ioLog := by cases r <;> rfl
@[simp] theorem State.setReg16_fresh (s : State) (r : Reg16) (v : Word) : (s.setReg16 r v).fresh = s.fresh := by cases r <;> rfl
@[simp] theorem State.setReg16_handlers (s : State) (r : Reg16) (v : Word) : (s.setReg16 r v).handlers = s.handlers := by cases r <;> rfl
@[simp] theorem State.setReg16_illegalMode (s : State) (r : Reg16) (v : Word) : (s.setReg16 r v).illegalMode = s.illegalMode := by cases r <;> rfl
@[simp] theorem State.setReg16_params (s : State) (r : Reg16) (v : Word) : (s.setReg16 r v).params = s.params := by cases r <;> rfl

/-! ## `portRead` -/

@[simp] theorem State.portRead_regs (s : State) : (s.portRead).regs = s.regs := by unfold State.portRead; split <;> rfl
@[simp] theorem State.portRead_shadow (s : State) : (s.portRead).shadow = s.shadow := by unfold State.portRead; split <;> rfl
@[simp] theorem State.portRead_spHi (s : State) : (s.portRead).spHi = s.spHi := by unfold State.portRead; split <;> rfl
@[simp] theorem State.portRead_pcHi (s : State) : (s.portRead).pcHi = s.pcHi := by unfold State.portRead; split <;> rfl
@[simp] theorem State.portRead_k (s : State) : (s.portRead).k = s.k := by unfold State.portRead; split <;> rfl
@[simp] theorem State.portRead_f (s : State) : (s.portRead).f = s.f := by unfold State.portRead; split <;> rfl
@[simp] theorem State.portRead_fShadow (s : State) : (s.portRead).fShadow = s.fShadow := by unfold State.portRead; split <;> rfl
@[simp] theorem State.portRead_e (s : State) : (s.portRead).e = s.e := by unfold State.portRead; split <;> rfl
@[simp] theorem State.portRead_run (s : State) : (s.portRead).run = s.run := by unfold State.portRead; split <;> rfl
@[simp] theorem State.portRead_mem (s : State) : (s.portRead).mem = s.mem := by unfold State.portRead; split <;> rfl
@[simp] theorem State.portRead_inputs (s : State) : (s.portRead).inputs = s.inputs := by unfold State.portRead; split <;> rfl
@[simp] theorem State.portRead_handlers (s : State) : (s.portRead).handlers = s.handlers := by unfold State.portRead; split <;> rfl
@[simp] theorem State.portRead_illegalMode (s : State) : (s.portRead).illegalMode = s.illegalMode := by unfold State.portRead; split <;> rfl
@[simp] theorem State.portRead_params (s : State) : (s.portRead).params = s.params := by unfold State.portRead; split <;> rfl

/-! ## SP and PC -/

/-- SP after a write (10_state.md R26, `ODD_WRITE`). -/
theorem State.setSp_sp (s : State) (v : Word) : (s.setSp v).sp = s.params.oddWrite.stored s.spHi v ++ 0#1 := rfl

/-- PC after a write (10_state.md R27, `ODD_WRITE`). -/
theorem State.setPc_pc (s : State) (v : Word) : (s.setPc v).pc = s.params.oddWrite.stored s.pcHi v ++ 0#1 := rfl

/-- SP after an even value is written. -/
theorem State.setSp_sp_even (s : State) {v : Word} (h : v.getLsbD 0 = false) : (s.setSp v).sp = v := by
  rw [State.setSp_sp, OddWrite.stored_even _ _ h, extract_append_zero v h]

/-- PC after an even value is written. -/
theorem State.setPc_pc_even (s : State) {v : Word} (h : v.getLsbD 0 = false) : (s.setPc v).pc = v := by
  rw [State.setPc_pc, OddWrite.stored_even _ _ h, extract_append_zero v h]

@[simp] theorem State.setPc_keeps_sp (s : State) (v : Word) : (s.setPc v).sp = s.sp := by simp [State.sp]
@[simp] theorem State.setK_keeps_sp (s : State) (v : Byte) : (s.setK v).sp = s.sp := by simp [State.sp]
@[simp] theorem State.setF_keeps_sp (s : State) (g : Flags) : (s.setF g).sp = s.sp := by simp [State.sp]
@[simp] theorem State.setKf_keeps_sp (s : State) (w : Word) : (s.setKf w).sp = s.sp := by simp [State.sp]
@[simp] theorem State.setC_keeps_sp (s : State) (v : Byte) : (s.setC v).sp = s.sp := by simp [State.sp]
@[simp] theorem State.setE_keeps_sp (s : State) (v : Byte) : (s.setE v).sp = s.sp := by simp [State.sp]
@[simp] theorem State.drawn_keeps_sp (s : State) : (s.drawn).sp = s.sp := by simp [State.sp]
@[simp] theorem State.drawA_keeps_sp (s : State) : (s.drawA).sp = s.sp := by simp [State.sp]
@[simp] theorem State.portWrite_keeps_sp (s : State) (v : Byte) : (s.portWrite v).sp = s.sp := by simp [State.sp]
@[simp] theorem State.writeByte_keeps_sp (s : State) (a : Addr) (v : Byte) : (s.writeByte a v).sp = s.sp := by simp [State.sp]
@[simp] theorem State.write8_keeps_sp (s : State) (ea : Ea) (v : Byte) : (s.write8 ea v).sp = s.sp := by simp [State.sp]
@[simp] theorem State.write16_keeps_sp (s : State) (ea : Ea) (v : Word) : (s.write16 ea v).sp = s.sp := by simp [State.sp]
@[simp] theorem State.setReg8_keeps_sp (s : State) (r : Reg8) (v : Byte) : (s.setReg8 r v).sp = s.sp := by simp [State.sp]
@[simp] theorem State.portRead_keeps_sp (s : State) : (s.portRead).sp = s.sp := by simp [State.sp]

@[simp] theorem State.setSp_keeps_pc (s : State) (v : Word) : (s.setSp v).pc = s.pc := by simp [State.pc]
@[simp] theorem State.setK_keeps_pc (s : State) (v : Byte) : (s.setK v).pc = s.pc := by simp [State.pc]
@[simp] theorem State.setF_keeps_pc (s : State) (g : Flags) : (s.setF g).pc = s.pc := by simp [State.pc]
@[simp] theorem State.setKf_keeps_pc (s : State) (w : Word) : (s.setKf w).pc = s.pc := by simp [State.pc]
@[simp] theorem State.setC_keeps_pc (s : State) (v : Byte) : (s.setC v).pc = s.pc := by simp [State.pc]
@[simp] theorem State.setE_keeps_pc (s : State) (v : Byte) : (s.setE v).pc = s.pc := by simp [State.pc]
@[simp] theorem State.drawn_keeps_pc (s : State) : (s.drawn).pc = s.pc := by simp [State.pc]
@[simp] theorem State.drawA_keeps_pc (s : State) : (s.drawA).pc = s.pc := by simp [State.pc]
@[simp] theorem State.portWrite_keeps_pc (s : State) (v : Byte) : (s.portWrite v).pc = s.pc := by simp [State.pc]
@[simp] theorem State.writeByte_keeps_pc (s : State) (a : Addr) (v : Byte) : (s.writeByte a v).pc = s.pc := by simp [State.pc]
@[simp] theorem State.write8_keeps_pc (s : State) (ea : Ea) (v : Byte) : (s.write8 ea v).pc = s.pc := by simp [State.pc]
@[simp] theorem State.write16_keeps_pc (s : State) (ea : Ea) (v : Word) : (s.write16 ea v).pc = s.pc := by simp [State.pc]
@[simp] theorem State.popped_keeps_pc (s : State) : (s.popped).pc = s.pc := by simp [State.pc]
@[simp] theorem State.push16_keeps_pc (s : State) (v : Word) : (s.push16 v).pc = s.pc := by simp [State.pc]
@[simp] theorem State.setReg8_keeps_pc (s : State) (r : Reg8) (v : Byte) : (s.setReg8 r v).pc = s.pc := by simp [State.pc]
@[simp] theorem State.setReg16_keeps_pc (s : State) (r : Reg16) (v : Word) : (s.setReg16 r v).pc = s.pc := by simp [State.pc]
@[simp] theorem State.portRead_keeps_pc (s : State) : (s.portRead).pc = s.pc := by simp [State.pc]

/-! ## General registers -/

/-- An 8-bit register reads as last written. -/
@[simp] theorem State.setReg8_reg8_same (s : State) (r : Reg8) (v : Byte) : (s.setReg8 r v).reg8 r = v := by
  cases r <;> rfl

/-- A write of one 8-bit register leaves the other seven alone. -/
theorem State.setReg8_reg8_other (s : State) {r q : Reg8} (v : Byte) (h : q ≠ r) :
    (s.setReg8 r v).reg8 q = s.reg8 q := by
  cases r <;> cases q <;> first | rfl | exact absurd rfl h

/-- Register C is none of the eight. -/
@[simp] theorem State.setReg8_c (s : State) (r : Reg8) (v : Byte) : (s.setReg8 r v).regs.c = s.regs.c := by
  cases r <;> rfl

/-- A 16-bit register write leaves register C alone. -/
@[simp] theorem State.setReg16_c (s : State) (r : Reg16) (v : Word) : (s.setReg16 r v).regs.c = s.regs.c := by
  cases r <;> rfl

/-- A 16-bit register other than SP leaves SP alone. -/
theorem State.setReg16_keeps_sp (s : State) {r : Reg16} (v : Word) (h : r ≠ .sp) : (s.setReg16 r v).sp = s.sp := by
  cases r <;> first | rfl | exact absurd rfl h

/-- A pair reads as last written; SP reads what the write stores (10_state.md R21, R26, `ODD_WRITE`). -/
theorem State.setReg16_reg16_same (s : State) (r : Reg16) (v : Word) :
    (s.setReg16 r v).reg16 r = match r with
      | .sp => s.params.oddWrite.stored s.spHi v ++ 0#1
      | _ => v := by
  cases r
  case sp => rfl
  all_goals
    apply BitVec.eq_of_getLsbD_eq
    intro i hi
    simp only [State.setReg16, State.reg16, pair, hiByte, loByte, BitVec.getLsbD_append, BitVec.getLsbD_extractLsb']
    by_cases h : i < 8
    · simp [h]
    · simp [h, show i - 8 < 8 by omega, show 8 + (i - 8) = i by omega]

/-- A 16-bit register write leaves the other 16-bit registers alone. -/
theorem State.setReg16_reg16_other (s : State) {r q : Reg16} (v : Word) (h : q ≠ r) :
    (s.setReg16 r v).reg16 q = s.reg16 q := by
  cases r <;> cases q <;> first | rfl | exact absurd rfl h

/-- The registers read the same when the register sets and SP are the same. -/
theorem State.reg16_congr {s t : State} (h : s.regs = t.regs) (hs : s.spHi = t.spHi) (r : Reg16) :
    s.reg16 r = t.reg16 r := by
  cases r <;> simp [State.reg16, State.sp, h, hs]

/-- The 8-bit registers read the same when the register sets are the same. -/
theorem State.reg8_congr {s t : State} (h : s.regs = t.regs) (r : Reg8) : s.reg8 r = t.reg8 r := by
  cases r <;> simp [State.reg8, h]

end Sys2Proof.Machine
end

