-- ==== Sys2Proof/Laws/Operands.lean ====
section
/-! SUPPORT. What each shared operation over operands, the stack and exceptions can do, said once: the fields it keeps,
the bytes it leaves alone, and that it keeps the canonical memory. -/

namespace Sys2Proof.Machine

/-! ## The pointer of an auto-index -/

@[simp] theorem State.setPointer_shadow (s : State) (p : Pointer) (v : Word) : (s.setPointer p v).shadow = s.shadow := by
  cases p with
  | reg r => cases r <;> rfl
  | z n => rfl
@[simp] theorem State.setPointer_spHi (s : State) (p : Pointer) (v : Word) : (s.setPointer p v).spHi = s.spHi := by
  cases p with
  | reg r => cases r <;> rfl
  | z n => rfl
@[simp] theorem State.setPointer_pcHi (s : State) (p : Pointer) (v : Word) : (s.setPointer p v).pcHi = s.pcHi := by
  cases p with
  | reg r => cases r <;> rfl
  | z n => rfl
@[simp] theorem State.setPointer_k (s : State) (p : Pointer) (v : Word) : (s.setPointer p v).k = s.k := by
  cases p with
  | reg r => cases r <;> rfl
  | z n => rfl
@[simp] theorem State.setPointer_f (s : State) (p : Pointer) (v : Word) : (s.setPointer p v).f = s.f := by
  cases p with
  | reg r => cases r <;> rfl
  | z n => rfl
@[simp] theorem State.setPointer_fShadow (s : State) (p : Pointer) (v : Word) : (s.setPointer p v).fShadow = s.fShadow := by
  cases p with
  | reg r => cases r <;> rfl
  | z n => rfl
@[simp] theorem State.setPointer_e (s : State) (p : Pointer) (v : Word) : (s.setPointer p v).e = s.e := by
  cases p with
  | reg r => cases r <;> rfl
  | z n => rfl
@[simp] theorem State.setPointer_run (s : State) (p : Pointer) (v : Word) : (s.setPointer p v).run = s.run := by
  cases p with
  | reg r => cases r <;> rfl
  | z n => rfl
@[simp] theorem State.setPointer_inputs (s : State) (p : Pointer) (v : Word) : (s.setPointer p v).inputs = s.inputs := by
  cases p with
  | reg r => cases r <;> rfl
  | z n => rfl
@[simp] theorem State.setPointer_portAnswers (s : State) (p : Pointer) (v : Word) : (s.setPointer p v).portAnswers = s.portAnswers := by
  cases p with
  | reg r => cases r <;> rfl
  | z n => rfl
@[simp] theorem State.setPointer_ioLog (s : State) (p : Pointer) (v : Word) : (s.setPointer p v).ioLog = s.ioLog := by
  cases p with
  | reg r => cases r <;> rfl
  | z n => rfl
@[simp] theorem State.setPointer_fresh (s : State) (p : Pointer) (v : Word) : (s.setPointer p v).fresh = s.fresh := by
  cases p with
  | reg r => cases r <;> rfl
  | z n => rfl
@[simp] theorem State.setPointer_handlers (s : State) (p : Pointer) (v : Word) : (s.setPointer p v).handlers = s.handlers := by
  cases p with
  | reg r => cases r <;> rfl
  | z n => rfl
@[simp] theorem State.setPointer_illegalMode (s : State) (p : Pointer) (v : Word) : (s.setPointer p v).illegalMode = s.illegalMode := by
  cases p with
  | reg r => cases r <;> rfl
  | z n => rfl
@[simp] theorem State.setPointer_params (s : State) (p : Pointer) (v : Word) : (s.setPointer p v).params = s.params := by
  cases p with
  | reg r => cases r <;> rfl
  | z n => rfl

@[simp] theorem State.step1_shadow (s : State) (a : Option AutoIndex) (w : Nat) : (s.step1 a w).shadow = s.shadow := by
  cases a <;> simp [State.step1]
@[simp] theorem State.step1_spHi (s : State) (a : Option AutoIndex) (w : Nat) : (s.step1 a w).spHi = s.spHi := by
  cases a <;> simp [State.step1]
@[simp] theorem State.step1_pcHi (s : State) (a : Option AutoIndex) (w : Nat) : (s.step1 a w).pcHi = s.pcHi := by
  cases a <;> simp [State.step1]
@[simp] theorem State.step1_k (s : State) (a : Option AutoIndex) (w : Nat) : (s.step1 a w).k = s.k := by
  cases a <;> simp [State.step1]
@[simp] theorem State.step1_f (s : State) (a : Option AutoIndex) (w : Nat) : (s.step1 a w).f = s.f := by
  cases a <;> simp [State.step1]
@[simp] theorem State.step1_fShadow (s : State) (a : Option AutoIndex) (w : Nat) : (s.step1 a w).fShadow = s.fShadow := by
  cases a <;> simp [State.step1]
@[simp] theorem State.step1_e (s : State) (a : Option AutoIndex) (w : Nat) : (s.step1 a w).e = s.e := by
  cases a <;> simp [State.step1]
@[simp] theorem State.step1_run (s : State) (a : Option AutoIndex) (w : Nat) : (s.step1 a w).run = s.run := by
  cases a <;> simp [State.step1]
@[simp] theorem State.step1_inputs (s : State) (a : Option AutoIndex) (w : Nat) : (s.step1 a w).inputs = s.inputs := by
  cases a <;> simp [State.step1]
@[simp] theorem State.step1_portAnswers (s : State) (a : Option AutoIndex) (w : Nat) : (s.step1 a w).portAnswers = s.portAnswers := by
  cases a <;> simp [State.step1]
@[simp] theorem State.step1_ioLog (s : State) (a : Option AutoIndex) (w : Nat) : (s.step1 a w).ioLog = s.ioLog := by
  cases a <;> simp [State.step1]
@[simp] theorem State.step1_fresh (s : State) (a : Option AutoIndex) (w : Nat) : (s.step1 a w).fresh = s.fresh := by
  cases a <;> simp [State.step1]
@[simp] theorem State.step1_handlers (s : State) (a : Option AutoIndex) (w : Nat) : (s.step1 a w).handlers = s.handlers := by
  cases a <;> simp [State.step1]
@[simp] theorem State.step1_illegalMode (s : State) (a : Option AutoIndex) (w : Nat) : (s.step1 a w).illegalMode = s.illegalMode := by
  cases a <;> simp [State.step1]
@[simp] theorem State.step1_params (s : State) (a : Option AutoIndex) (w : Nat) : (s.step1 a w).params = s.params := by
  cases a <;> simp [State.step1]

/-- A Z register's pointer is memory, so the general registers stay. -/
@[simp] theorem State.setPointer_z_regs (s : State) (n : BitVec 4) (v : Word) :
    (s.setPointer (.z n) v).regs = s.regs := rfl

/-- A register pointer leaves memory alone. -/
@[simp] theorem State.setPointer_reg_mem (s : State) (r : IndexReg) (v : Word) :
    (s.setPointer (.reg r) v).mem = s.mem := by
  cases r <;> rfl

/-- Register C is no pointer of an auto-index. -/
@[simp] theorem State.setPointer_c (s : State) (p : Pointer) (v : Word) :
    (s.setPointer p v).regs.c = s.regs.c := by
  cases p with
  | reg r => cases r <;> rfl
  | z n => rfl

/-- Register C is no pointer of an auto-index. -/
@[simp] theorem State.step1_c (s : State) (a : Option AutoIndex) (w : Nat) : (s.step1 a w).regs.c = s.regs.c := by
  cases a <;> simp [State.step1]

/-- An auto-index stores to nothing but the Z register it steps (20_memory.md R84). -/
theorem State.readByte_step1_other (s : State) (a : Option AutoIndex) (w : Nat) {b : Addr} (h : b ∉ autoBytes a) :
    (s.step1 a w).readByte b = s.readByte b := by
  cases a with
  | none => rfl
  | some a =>
    obtain ⟨seg, ptr, dir⟩ := a
    cases ptr with
    | reg r => simp [State.step1, State.readByte]
    | z n => exact State.readByte_write16_other _ _ _ h

/-- An auto-index keeps the canonical memory. -/
theorem State.step1_wf (s : State) (h : s.mem.wf = true) (a : Option AutoIndex) (w : Nat) :
    (s.step1 a w).mem.wf = true := by
  cases a with
  | none => exact h
  | some a =>
    obtain ⟨seg, ptr, dir⟩ := a
    cases ptr with
    | reg r => simpa [State.step1] using h
    | z n => exact State.write16_wf _ h _ _

/-! ## The auto-indexing that ends an instruction -/

/-- What `adjustA` can do: only the A flag and the count of free values may change (20_memory.md R82, R83). -/
theorem State.adjustA_eq (s : State) (col : AColumn) (c : Bool) :
    ∃ a n, s.adjustA col c = { s with f := { s.f with a := a }, fresh := n } := by
  unfold State.adjustA
  cases col with
  | star => cases h : s.params.aOnAutoIndex <;> dsimp only <;> exact ⟨_, _, rfl⟩
  | own => exact ⟨_, _, rfl⟩
  | dash => exact ⟨_, _, rfl⟩

/-- JP, JPD, CALL and CALLD leave A alone (90_conflicts.md C5). -/
@[simp] theorem State.adjustA_dash (s : State) (c : Bool) : s.adjustA .dash c = s := rfl

/-- Under the column `*` and `A_ON_AUTOINDEX` = `carry`, A is the carry (20_memory.md R82). -/
theorem State.adjustA_star_a (s : State) (c : Bool) (h : s.params.aOnAutoIndex = .carry) :
    (s.adjustA .star c).f.a = c := by
  simp only [State.adjustA, h, State.setF_f]

/-- What `autoIndex` can do: the two pointer updates, the source's first; besides them only the A flag and the count of
free values may change (20_memory.md R81 to R83). -/
theorem State.autoIndex_eq (s : State) (col : AColumn) (w : Nat) (src dst : Option AutoIndex) :
    ∃ a n, s.autoIndex col w src dst =
      { (s.step1 src w).step1 dst w with
        f := { ((s.step1 src w).step1 dst w).f with a := a }
        fresh := n } := by
  unfold State.autoIndex
  dsimp only
  split
  · exact ⟨_, _, rfl⟩
  · split <;> exact ⟨_, _, rfl⟩
  · exact State.adjustA_eq ..
  · exact State.adjustA_eq ..

/-- Without an auto-index nothing happens at the end of an instruction. -/
@[simp] theorem State.autoIndex_none (s : State) (col : AColumn) (w : Nat) : s.autoIndex col w none none = s := rfl

/-- The general registers after the auto-indexing are those of the two pointer updates. -/
@[simp] theorem State.autoIndex_regs (s : State) (col : AColumn) (w : Nat) (src dst : Option AutoIndex) :
    (s.autoIndex col w src dst).regs = ((s.step1 src w).step1 dst w).regs := by
  obtain ⟨a, n, h⟩ := s.autoIndex_eq col w src dst; rw [h]

/-- Memory after the auto-indexing is that of the two pointer updates. -/
@[simp] theorem State.autoIndex_mem (s : State) (col : AColumn) (w : Nat) (src dst : Option AutoIndex) :
    (s.autoIndex col w src dst).mem = ((s.step1 src w).step1 dst w).mem := by
  obtain ⟨a, n, h⟩ := s.autoIndex_eq col w src dst; rw [h]

@[simp] theorem State.autoIndex_shadow (s : State) (col : AColumn) (w : Nat) (src dst : Option AutoIndex) : (s.autoIndex col w src dst).shadow = s.shadow := by
  obtain ⟨a, n, h⟩ := s.autoIndex_eq col w src dst; simp [h]
@[simp] theorem State.autoIndex_spHi (s : State) (col : AColumn) (w : Nat) (src dst : Option AutoIndex) : (s.autoIndex col w src dst).spHi = s.spHi := by
  obtain ⟨a, n, h⟩ := s.autoIndex_eq col w src dst; simp [h]
@[simp] theorem State.autoIndex_pcHi (s : State) (col : AColumn) (w : Nat) (src dst : Option AutoIndex) : (s.autoIndex col w src dst).pcHi = s.pcHi := by
  obtain ⟨a, n, h⟩ := s.autoIndex_eq col w src dst; simp [h]
@[simp] theorem State.autoIndex_k (s : State) (col : AColumn) (w : Nat) (src dst : Option AutoIndex) : (s.autoIndex col w src dst).k = s.k := by
  obtain ⟨a, n, h⟩ := s.autoIndex_eq col w src dst; simp [h]
@[simp] theorem State.autoIndex_fShadow (s : State) (col : AColumn) (w : Nat) (src dst : Option AutoIndex) : (s.autoIndex col w src dst).fShadow = s.fShadow := by
  obtain ⟨a, n, h⟩ := s.autoIndex_eq col w src dst; simp [h]
@[simp] theorem State.autoIndex_e (s : State) (col : AColumn) (w : Nat) (src dst : Option AutoIndex) : (s.autoIndex col w src dst).e = s.e := by
  obtain ⟨a, n, h⟩ := s.autoIndex_eq col w src dst; simp [h]
@[simp] theorem State.autoIndex_run (s : State) (col : AColumn) (w : Nat) (src dst : Option AutoIndex) : (s.autoIndex col w src dst).run = s.run := by
  obtain ⟨a, n, h⟩ := s.autoIndex_eq col w src dst; simp [h]
@[simp] theorem State.autoIndex_inputs (s : State) (col : AColumn) (w : Nat) (src dst : Option AutoIndex) : (s.autoIndex col w src dst).inputs = s.inputs := by
  obtain ⟨a, n, h⟩ := s.autoIndex_eq col w src dst; simp [h]
@[simp] theorem State.autoIndex_portAnswers (s : State) (col : AColumn) (w : Nat) (src dst : Option AutoIndex) : (s.autoIndex col w src dst).portAnswers = s.portAnswers := by
  obtain ⟨a, n, h⟩ := s.autoIndex_eq col w src dst; simp [h]
@[simp] theorem State.autoIndex_ioLog (s : State) (col : AColumn) (w : Nat) (src dst : Option AutoIndex) : (s.autoIndex col w src dst).ioLog = s.ioLog := by
  obtain ⟨a, n, h⟩ := s.autoIndex_eq col w src dst; simp [h]
@[simp] theorem State.autoIndex_handlers (s : State) (col : AColumn) (w : Nat) (src dst : Option AutoIndex) : (s.autoIndex col w src dst).handlers = s.handlers := by
  obtain ⟨a, n, h⟩ := s.autoIndex_eq col w src dst; simp [h]
@[simp] theorem State.autoIndex_illegalMode (s : State) (col : AColumn) (w : Nat) (src dst : Option AutoIndex) : (s.autoIndex col w src dst).illegalMode = s.illegalMode := by
  obtain ⟨a, n, h⟩ := s.autoIndex_eq col w src dst; simp [h]
@[simp] theorem State.autoIndex_params (s : State) (col : AColumn) (w : Nat) (src dst : Option AutoIndex) : (s.autoIndex col w src dst).params = s.params := by
  obtain ⟨a, n, h⟩ := s.autoIndex_eq col w src dst; simp [h]

/-- Of the flags only A can change. -/
theorem State.autoIndex_f (s : State) (col : AColumn) (w : Nat) (src dst : Option AutoIndex) :
    (s.autoIndex col w src dst).f = { s.f with a := (s.autoIndex col w src dst).f.a } := by
  obtain ⟨a, n, h⟩ := s.autoIndex_eq col w src dst; simp [h]

/-- JP, JPD, CALL and CALLD change no flag, A included (90_conflicts.md C5). -/
theorem State.autoIndex_dash_f (s : State) (w : Nat) (src dst : Option AutoIndex) :
    (s.autoIndex .dash w src dst).f = s.f := by
  unfold State.autoIndex
  dsimp only
  split <;> simp

/-- The auto-indexing stores to nothing but the Z registers it steps. -/
theorem State.readByte_autoIndex_other (s : State) (col : AColumn) (w : Nat) (src dst : Option AutoIndex) {b : Addr}
    (hs : b ∉ autoBytes src) (hd : b ∉ autoBytes dst) :
    (s.autoIndex col w src dst).readByte b = s.readByte b := by
  have h : (s.autoIndex col w src dst).readByte b = ((s.step1 src w).step1 dst w).readByte b := by
    simp [State.readByte]
  rw [h, State.readByte_step1_other _ _ _ hd, State.readByte_step1_other _ _ _ hs]

/-- The auto-indexing keeps the canonical memory. -/
theorem State.autoIndex_wf (s : State) (h : s.mem.wf = true) (col : AColumn) (w : Nat) (src dst : Option AutoIndex) :
    (s.autoIndex col w src dst).mem.wf = true := by
  rw [State.autoIndex_mem]; exact State.step1_wf _ (State.step1_wf _ h _ _) _ _

/-- No RM operand steps a Z register. -/
@[simp] theorem autoBytes_loc8Auto (l : Loc8) : autoBytes (loc8Auto l) = [] := by
  rcases l with r | m
  · rfl
  · cases m <;> rfl

/-- No RM operand steps a Z register. -/
@[simp] theorem autoBytes_src8Auto (l : Src8) : autoBytes (src8Auto l) = [] := by
  rcases l with v | l
  · rfl
  · exact autoBytes_loc8Auto l

/-- No RM operand steps a Z register. -/
@[simp] theorem autoBytes_loc16Auto (l : Loc16) : autoBytes (loc16Auto l) = [] := by
  rcases l with r | m
  · rfl
  · cases m <;> rfl

/-- No RM operand steps a Z register. -/
@[simp] theorem autoBytes_src16Auto (l : Src16) : autoBytes (src16Auto l) = [] := by
  rcases l with v | p | l
  · rfl
  · rfl
  · exact autoBytes_loc16Auto l

/-! ## Writing an operand -/

@[simp] theorem State.writeLoc8_shadow (s : State) (l : Loc8) (v : Byte) (t : State) : (s.writeLoc8 l v t).shadow = t.shadow := by
  cases l <;> simp [State.writeLoc8]
@[simp] theorem State.writeLoc8_pcHi (s : State) (l : Loc8) (v : Byte) (t : State) : (s.writeLoc8 l v t).pcHi = t.pcHi := by
  cases l <;> simp [State.writeLoc8]
@[simp] theorem State.writeLoc8_k (s : State) (l : Loc8) (v : Byte) (t : State) : (s.writeLoc8 l v t).k = t.k := by
  cases l <;> simp [State.writeLoc8]
@[simp] theorem State.writeLoc8_f (s : State) (l : Loc8) (v : Byte) (t : State) : (s.writeLoc8 l v t).f = t.f := by
  cases l <;> simp [State.writeLoc8]
@[simp] theorem State.writeLoc8_fShadow (s : State) (l : Loc8) (v : Byte) (t : State) : (s.writeLoc8 l v t).fShadow = t.fShadow := by
  cases l <;> simp [State.writeLoc8]
@[simp] theorem State.writeLoc8_e (s : State) (l : Loc8) (v : Byte) (t : State) : (s.writeLoc8 l v t).e = t.e := by
  cases l <;> simp [State.writeLoc8]
@[simp] theorem State.writeLoc8_run (s : State) (l : Loc8) (v : Byte) (t : State) : (s.writeLoc8 l v t).run = t.run := by
  cases l <;> simp [State.writeLoc8]
@[simp] theorem State.writeLoc8_inputs (s : State) (l : Loc8) (v : Byte) (t : State) : (s.writeLoc8 l v t).inputs = t.inputs := by
  cases l <;> simp [State.writeLoc8]
@[simp] theorem State.writeLoc8_portAnswers (s : State) (l : Loc8) (v : Byte) (t : State) : (s.writeLoc8 l v t).portAnswers = t.portAnswers := by
  cases l <;> simp [State.writeLoc8]
@[simp] theorem State.writeLoc8_ioLog (s : State) (l : Loc8) (v : Byte) (t : State) : (s.writeLoc8 l v t).ioLog = t.ioLog := by
  cases l <;> simp [State.writeLoc8]
@[simp] theorem State.writeLoc8_fresh (s : State) (l : Loc8) (v : Byte) (t : State) : (s.writeLoc8 l v t).fresh = t.fresh := by
  cases l <;> simp [State.writeLoc8]
@[simp] theorem State.writeLoc8_handlers (s : State) (l : Loc8) (v : Byte) (t : State) : (s.writeLoc8 l v t).handlers = t.handlers := by
  cases l <;> simp [State.writeLoc8]
@[simp] theorem State.writeLoc8_illegalMode (s : State) (l : Loc8) (v : Byte) (t : State) : (s.writeLoc8 l v t).illegalMode = t.illegalMode := by
  cases l <;> simp [State.writeLoc8]
@[simp] theorem State.writeLoc8_params (s : State) (l : Loc8) (v : Byte) (t : State) : (s.writeLoc8 l v t).params = t.params := by
  cases l <;> simp [State.writeLoc8]
@[simp] theorem State.writeLoc8_spHi (s : State) (l : Loc8) (v : Byte) (t : State) : (s.writeLoc8 l v t).spHi = t.spHi := by
  cases l <;> simp [State.writeLoc8]

@[simp] theorem State.writeLoc16_shadow (s : State) (l : Loc16) (v : Word) (t : State) : (s.writeLoc16 l v t).shadow = t.shadow := by
  cases l <;> simp [State.writeLoc16]
@[simp] theorem State.writeLoc16_pcHi (s : State) (l : Loc16) (v : Word) (t : State) : (s.writeLoc16 l v t).pcHi = t.pcHi := by
  cases l <;> simp [State.writeLoc16]
@[simp] theorem State.writeLoc16_k (s : State) (l : Loc16) (v : Word) (t : State) : (s.writeLoc16 l v t).k = t.k := by
  cases l <;> simp [State.writeLoc16]
@[simp] theorem State.writeLoc16_f (s : State) (l : Loc16) (v : Word) (t : State) : (s.writeLoc16 l v t).f = t.f := by
  cases l <;> simp [State.writeLoc16]
@[simp] theorem State.writeLoc16_fShadow (s : State) (l : Loc16) (v : Word) (t : State) : (s.writeLoc16 l v t).fShadow = t.fShadow := by
  cases l <;> simp [State.writeLoc16]
@[simp] theorem State.writeLoc16_e (s : State) (l : Loc16) (v : Word) (t : State) : (s.writeLoc16 l v t).e = t.e := by
  cases l <;> simp [State.writeLoc16]
@[simp] theorem State.writeLoc16_run (s : State) (l : Loc16) (v : Word) (t : State) : (s.writeLoc16 l v t).run = t.run := by
  cases l <;> simp [State.writeLoc16]
@[simp] theorem State.writeLoc16_inputs (s : State) (l : Loc16) (v : Word) (t : State) : (s.writeLoc16 l v t).inputs = t.inputs := by
  cases l <;> simp [State.writeLoc16]
@[simp] theorem State.writeLoc16_portAnswers (s : State) (l : Loc16) (v : Word) (t : State) : (s.writeLoc16 l v t).portAnswers = t.portAnswers := by
  cases l <;> simp [State.writeLoc16]
@[simp] theorem State.writeLoc16_ioLog (s : State) (l : Loc16) (v : Word) (t : State) : (s.writeLoc16 l v t).ioLog = t.ioLog := by
  cases l <;> simp [State.writeLoc16]
@[simp] theorem State.writeLoc16_fresh (s : State) (l : Loc16) (v : Word) (t : State) : (s.writeLoc16 l v t).fresh = t.fresh := by
  cases l <;> simp [State.writeLoc16]
@[simp] theorem State.writeLoc16_handlers (s : State) (l : Loc16) (v : Word) (t : State) : (s.writeLoc16 l v t).handlers = t.handlers := by
  cases l <;> simp [State.writeLoc16]
@[simp] theorem State.writeLoc16_illegalMode (s : State) (l : Loc16) (v : Word) (t : State) : (s.writeLoc16 l v t).illegalMode = t.illegalMode := by
  cases l <;> simp [State.writeLoc16]
@[simp] theorem State.writeLoc16_params (s : State) (l : Loc16) (v : Word) (t : State) : (s.writeLoc16 l v t).params = t.params := by
  cases l <;> simp [State.writeLoc16]

/-- Writing an 8-bit operand leaves register C alone. -/
@[simp] theorem State.writeLoc8_c (s : State) (l : Loc8) (v : Byte) (t : State) :
    (s.writeLoc8 l v t).regs.c = t.regs.c := by
  cases l <;> simp [State.writeLoc8]

/-- Writing a 16-bit operand leaves register C alone. -/
@[simp] theorem State.writeLoc16_c (s : State) (l : Loc16) (v : Word) (t : State) :
    (s.writeLoc16 l v t).regs.c = t.regs.c := by
  cases l <;> simp [State.writeLoc16]

/-- Writing an 8-bit operand stores to its byte only. -/
theorem State.readByte_writeLoc8_other (s : State) (l : Loc8) (v : Byte) (t : State) {b : Addr}
    (h : b ∉ s.loc8Bytes l) : (s.writeLoc8 l v t).readByte b = t.readByte b := by
  cases l with
  | reg r => simp [State.writeLoc8, State.readByte]
  | mem m => exact State.readByte_write8_other _ _ _ h

/-- Writing a 16-bit operand stores to its two bytes only. -/
theorem State.readByte_writeLoc16_other (s : State) (l : Loc16) (v : Word) (t : State) {b : Addr}
    (h : b ∉ s.loc16Bytes l) : (s.writeLoc16 l v t).readByte b = t.readByte b := by
  cases l with
  | reg r => simp [State.writeLoc16, State.readByte]
  | mem m => exact State.readByte_write16_other _ _ _ h

/-- Writing an 8-bit operand keeps the canonical memory. -/
theorem State.writeLoc8_wf (s : State) (l : Loc8) (v : Byte) (t : State) (h : t.mem.wf = true) :
    (s.writeLoc8 l v t).mem.wf = true := by
  cases l with
  | reg r => simpa [State.writeLoc8] using h
  | mem m => exact State.write8_wf _ h _ _

/-- Writing a 16-bit operand keeps the canonical memory. -/
theorem State.writeLoc16_wf (s : State) (l : Loc16) (v : Word) (t : State) (h : t.mem.wf = true) :
    (s.writeLoc16 l v t).mem.wf = true := by
  cases l with
  | reg r => simpa [State.writeLoc16] using h
  | mem m => exact State.write16_wf _ h _ _

/-! ## Shared shapes of instructions -/

/-- If a 16-bit read-modify-write answers a next state, its location allowed the access and the state is this one. -/
theorem modify16_next {col : AColumn} {l : Loc16} {op : Word → Flags → Word × Flags} {s t : State}
    (h : modify16 col l op s = .next t) :
    (s.params.misaligned = .fault → ∀ ea, s.loc16Ea l = some ea → ea.odd = false) ∧
      t = ((s.writeLoc16 l (op (s.readLoc16 l) s.f).1 s).setF (op (s.readLoc16 l) s.f).2).autoIndex col 2 none
        (loc16Auto l) := by
  obtain ⟨e, a⟩ := whenAligned_next h
  exact ⟨a, (Host.Outcome.next.inj e).symm⟩

/-- If a 16-bit store answers a next state, its location allowed the access and the state is this one. -/
theorem store16_next {l : Loc16} {v : Word} {s t : State} (h : store16 l v s = .next t) :
    (s.params.misaligned = .fault → ∀ ea, s.loc16Ea l = some ea → ea.odd = false) ∧
      t = (s.writeLoc16 l v s).autoIndex .star 2 none (loc16Auto l) := by
  obtain ⟨e, a⟩ := whenAligned_next h
  exact ⟨a, (Host.Outcome.next.inj e).symm⟩

/-- A read-modify-write of a byte keeps the canonical memory. -/
theorem State.modify8_wf (s : State) (h : s.mem.wf = true) (col : AColumn) (l : Loc8)
    (op : Byte → Flags → Byte × Flags) : (s.modify8 col l op).mem.wf = true := by
  unfold State.modify8
  exact State.autoIndex_wf _ (by simpa using State.writeLoc8_wf s l _ s h) _ _ _ _

/-- A byte store keeps the canonical memory. -/
theorem State.store8_wf (s : State) (h : s.mem.wf = true) (l : Loc8) (v : Byte) : (s.store8 l v).mem.wf = true :=
  State.autoIndex_wf _ (State.writeLoc8_wf s l _ s h) _ _ _ _

/-- A read-modify-write of a byte stores to its byte only. -/
theorem State.readByte_modify8_other (s : State) (col : AColumn) (l : Loc8) (op : Byte → Flags → Byte × Flags)
    {b : Addr} (h : b ∉ s.loc8Bytes l) : (s.modify8 col l op).readByte b = s.readByte b := by
  unfold State.modify8
  rw [State.readByte_autoIndex_other _ _ _ _ _ (by simp [autoBytes]) (by simp)]
  exact State.readByte_writeLoc8_other s l _ s h

/-- A byte store stores to its byte only. -/
theorem State.readByte_store8_other (s : State) (l : Loc8) (v : Byte) {b : Addr} (h : b ∉ s.loc8Bytes l) :
    (s.store8 l v).readByte b = s.readByte b := by
  unfold State.store8
  rw [State.readByte_autoIndex_other _ _ _ _ _ (by simp [autoBytes]) (by simp)]
  exact State.readByte_writeLoc8_other s l _ s h

/-! ## The stack -/

/-- A push keeps the canonical memory. -/
theorem State.push16_wf (s : State) (h : s.mem.wf = true) (v : Word) : (s.push16 v).mem.wf = true :=
  State.write16_wf _ h _ _

/-- SP after a push: two lower (20_memory.md R85). -/
@[simp] theorem State.push16_sp (s : State) (v : Word) : (s.push16 v).sp = s.sp - 2 :=
  State.setSp_sp_even s (sub_two_bit0 _ s.sp_bit0)

/-- SP after a pop: two higher (20_memory.md R85). -/
@[simp] theorem State.popped_sp (s : State) : s.popped.sp = s.sp + 2 :=
  State.setSp_sp_even s (add_two_bit0 _ s.sp_bit0)

/-- A push stores to its own two bytes only. -/
theorem State.readByte_push16_other (s : State) (v : Word) {b : Addr} (h : b ∉ s.pushBytes 1) :
    (s.push16 v).readByte b = s.readByte b :=
  State.readByte_write16_other _ _ _ h

/-! ## Far frames, exception entry and return -/

/-- Exception entry keeps the canonical memory (60_exceptions.md R334). -/
theorem State.enter_wf (s : State) (h : s.mem.wf = true) (bank : Byte) (off ret : Word) :
    (s.enter bank off ret).mem.wf = true :=
  State.push16_wf _ (State.push16_wf s h _) _

/-- SP after exception entry: four lower (60_exceptions.md R334). -/
theorem State.enter_sp (s : State) (bank : Byte) (off ret : Word) : (s.enter bank off ret).sp = s.sp - 4 := by
  have h : (s.enter bank off ret).sp = (s.pushFar ret).sp := rfl
  rw [h, State.pushFar, State.push16_sp, State.push16_sp]
  bv_omega

@[simp] theorem State.enter_regs (s : State) (bank : Byte) (off ret : Word) : (s.enter bank off ret).regs = s.regs := rfl
@[simp] theorem State.enter_shadow (s : State) (bank : Byte) (off ret : Word) : (s.enter bank off ret).shadow = s.shadow := rfl
@[simp] theorem State.enter_f (s : State) (bank : Byte) (off ret : Word) : (s.enter bank off ret).f = s.entryFlags := rfl
@[simp] theorem State.enter_fShadow (s : State) (bank : Byte) (off ret : Word) : (s.enter bank off ret).fShadow = s.fShadow := rfl
@[simp] theorem State.enter_e (s : State) (bank : Byte) (off ret : Word) : (s.enter bank off ret).e = s.e := rfl
@[simp] theorem State.enter_k (s : State) (bank : Byte) (off ret : Word) : (s.enter bank off ret).k = bank := rfl
@[simp] theorem State.enter_run (s : State) (bank : Byte) (off ret : Word) : (s.enter bank off ret).run = .running := rfl
@[simp] theorem State.enter_inputs (s : State) (bank : Byte) (off ret : Word) : (s.enter bank off ret).inputs = s.inputs := rfl
@[simp] theorem State.enter_portAnswers (s : State) (bank : Byte) (off ret : Word) : (s.enter bank off ret).portAnswers = s.portAnswers := rfl
@[simp] theorem State.enter_ioLog (s : State) (bank : Byte) (off ret : Word) : (s.enter bank off ret).ioLog = s.ioLog := rfl
@[simp] theorem State.enter_fresh (s : State) (bank : Byte) (off ret : Word) : (s.enter bank off ret).fresh = s.fresh := rfl
@[simp] theorem State.enter_handlers (s : State) (bank : Byte) (off ret : Word) : (s.enter bank off ret).handlers = s.handlers := rfl
@[simp] theorem State.enter_illegalMode (s : State) (bank : Byte) (off ret : Word) : (s.enter bank off ret).illegalMode = s.illegalMode := rfl
@[simp] theorem State.enter_params (s : State) (bank : Byte) (off ret : Word) : (s.enter bank off ret).params = s.params := rfl

/-- What a boundary accepts is enabled and requested, and nothing enabled and requested comes before it in the order of
`IRQ_PRIORITY` (60_exceptions.md R338, R339). -/
theorem State.accepted_some {s : State} {pending : Byte} {n : Fin 8} (h : s.accepted pending = some n) :
    s.f.i = true ∧ (s.e.getLsbD n && pending.getLsbD n) = true ∧
      ∃ before after, s.params.irqOrder = before ++ n :: after ∧
        ∀ m ∈ before, (s.e.getLsbD m && pending.getLsbD m) = false := by
  unfold State.accepted at h
  split at h
  · rename_i hi
    obtain ⟨hn, before, after, ho, hb⟩ := List.find?_eq_some_iff_append.mp h
    exact ⟨hi, hn, before, after, ho, fun m hm => by simpa only [Bool.not_eq_true'] using hb m hm⟩
  · cases h

@[simp] theorem State.leave_regs (s : State) : (s.leave).regs = s.regs := rfl
@[simp] theorem State.leave_shadow (s : State) : (s.leave).shadow = s.shadow := rfl
@[simp] theorem State.leave_fShadow (s : State) : (s.leave).fShadow = s.fShadow := rfl
@[simp] theorem State.leave_e (s : State) : (s.leave).e = s.e := rfl
@[simp] theorem State.leave_run (s : State) : (s.leave).run = s.run := rfl
@[simp] theorem State.leave_mem (s : State) : (s.leave).mem = s.mem := rfl
@[simp] theorem State.leave_inputs (s : State) : (s.leave).inputs = s.inputs := rfl
@[simp] theorem State.leave_portAnswers (s : State) : (s.leave).portAnswers = s.portAnswers := rfl
@[simp] theorem State.leave_ioLog (s : State) : (s.leave).ioLog = s.ioLog := rfl
@[simp] theorem State.leave_fresh (s : State) : (s.leave).fresh = s.fresh := rfl
@[simp] theorem State.leave_handlers (s : State) : (s.leave).handlers = s.handlers := rfl
@[simp] theorem State.leave_illegalMode (s : State) : (s.leave).illegalMode = s.illegalMode := rfl
@[simp] theorem State.leave_params (s : State) : (s.leave).params = s.params := rfl
@[simp] theorem State.leave_k (s : State) : (s.leave).k = hiByte s.popped.top16 := rfl
@[simp] theorem State.leave_f (s : State) : (s.leave).f = Flags.ofByte (loByte s.popped.top16) := rfl

end Sys2Proof.Machine
end

