-- ==== Sys2Proof/Laws/Claims.lean ====
section
/-! SUPPORT. The shared operations in the words the statements use (Safety.lean): what the auto-indexing that ends an
instruction does, and what each shared shape of instruction does as a whole. -/

namespace Sys2Proof.Machine

/-! ## Writes of SP and PC -/

/-- What a write stores, over a zero bit, is what `afterWrite` says (10_state.md R26, R27). -/
theorem OddWrite.stored_eq_afterWrite (p : Params) (old : BitVec 15) (v : Word) :
    p.oddWrite.stored old v ++ 0#1 = afterWrite p (old ++ 0#1) v := by
  unfold afterWrite
  cases p.oddWrite with
  | discard => rw [if_neg (by simp), ← extract_append_mask]; rfl
  | keep =>
    cases h : v.getLsbD 0
    · rw [if_neg (by simp), ← extract_append_mask, OddWrite.stored_even _ _ h]
    · rw [if_pos ⟨rfl, rfl⟩, OddWrite.stored, h]; rfl

/-- SP after a write, in the words of the statements. -/
theorem State.setSp_sp_afterWrite (s : State) (v : Word) : (s.setSp v).sp = afterWrite s.params s.sp v :=
  OddWrite.stored_eq_afterWrite s.params s.spHi v

/-- PC after a write, in the words of the statements. -/
theorem State.setPc_pc_afterWrite (s : State) (v : Word) : (s.setPc v).pc = afterWrite s.params s.pc v :=
  OddWrite.stored_eq_afterWrite s.params s.pcHi v

/-! ## The auto-index of an RM operand -/

theorem loc8Auto_eq (l : Loc8) : loc8Auto l = l.memory.bind memAuto := by cases l <;> rfl

theorem src8Auto_eq (l : Src8) : src8Auto l = l.memory.bind memAuto := by
  rcases l with v | l
  · rfl
  · exact loc8Auto_eq l

theorem loc16Auto_eq (l : Loc16) : loc16Auto l = l.memory.bind memAuto := by cases l <;> rfl

theorem src16Auto_eq (l : Src16) : src16Auto l = l.memory.bind memAuto := by
  rcases l with v | p | l
  · rfl
  · rfl
  · exact loc16Auto_eq l

theorem loc16Ea_eq (s : State) (l : Loc16) : s.loc16Ea l = l.memory.map s.memEa := by cases l <;> rfl

theorem src16Ea_eq (s : State) (l : Src16) : s.src16Ea l = l.memory.map s.memEa := by
  rcases l with v | p | l
  · rfl
  · rfl
  · exact loc16Ea_eq s l

/-- A memory operand whose access is allowed passes the alignment check. -/
theorem whenAligned_evenMem {s : State} {m : Option Mem} (h : EvenMem s m) (r : Result) :
    whenAligned s.params.misaligned (m.map s.memEa) r = r := by
  apply whenAligned_even
  intro hm ea he
  obtain ⟨x, hx, rfl⟩ := Option.map_eq_some_iff.mp he
  exact h x hx hm

/-- One pointer update of an RM operand, as registers. -/
theorem State.step1_reg16 (u : State) (m : Option Mem) (w : Nat) (r : Reg16) :
    (u.step1 (m.bind memAuto) w).reg16 r = movedRegs m w u.reg16 r := by
  rcases m with _ | m
  · rfl
  · rcases m with m | ⟨seg, p, dir⟩
    · rfl
    · simp only [Option.bind_some, memAuto, State.step1, State.setPointer, State.stepped, State.pointer, movedRegs,
        movedBy]
      by_cases h : r = indexReg p
      · subst h
        rw [if_pos rfl, State.setReg16_reg16_same]
        cases p <;> cases dir <;> rfl
      · rw [if_neg h, State.setReg16_reg16_other _ _ h]

/-- One pointer update of an RM operand stores nothing. -/
@[simp] theorem State.step1_mem (u : State) (m : Option Mem) (w : Nat) : (u.step1 (m.bind memAuto) w).mem = u.mem := by
  rcases m with _ | m
  · rfl
  · rcases m with m | ⟨seg, p, dir⟩
    · rfl
    · simp [memAuto, State.step1]

/-- The carry of a "DS:" auto-index of an RM operand. -/
theorem State.dsCarry_eq (u : State) (m : Option Mem) (w : Nat) :
    u.dsCarry (m.bind memAuto) w = segmentFlag m w u.reg16 := by
  rcases m with _ | m
  · rfl
  · rcases m with m | ⟨seg, p, dir⟩
    · rfl
    · cases seg <;> cases dir <;> rfl

/-- The registers `movedRegs` gives depend on the registers only. -/
theorem movedRegs_congr {u v : Reg16 → Word} (h : ∀ r, u r = v r) (m : Option Mem) (w : Nat) :
    movedRegs m w u = movedRegs m w v := by
  rw [funext h]

/-- The auto-indexing that ends an instruction over RM operands: the registers step, memory stays. -/
theorem State.autoIndex_regsAre (u : State) (col : AColumn) (w : Nat) (src dst : Option Mem) :
    RegsAre (u.autoIndex col w (src.bind memAuto) (dst.bind memAuto)) w src dst u := by
  refine ⟨fun r => ?_, ?_⟩
  · rw [State.reg16_congr (State.autoIndex_regs ..) (by simp) r, State.step1_reg16]
    exact congrFun (movedRegs_congr (fun r => State.step1_reg16 u src w r) dst w) r
  · simp

/-- The auto-indexing that ends an instruction over RM operands stores nothing. -/
theorem State.autoIndex_rm_mem (u : State) (col : AColumn) (w : Nat) (src dst : Option Mem) :
    (u.autoIndex col w (src.bind memAuto) (dst.bind memAuto)).mem = u.mem := by
  simp

/-- The registers after one pointer update, as a function. -/
theorem movedRegs_congr_step (u : State) (m : Option Mem) (w : Nat) :
    (u.step1 (m.bind memAuto) w).reg16 = movedRegs m w u.reg16 :=
  funext fun r => State.step1_reg16 u m w r

/-- The A flag under the column `*` (R82, R83). -/
theorem State.autoIndex_star_a (u : State) (w : Nat) (src dst : Option Mem) :
    FlagAIs (u.autoIndex .star w (src.bind memAuto) (dst.bind memAuto)) w src dst u u.f.a none := by
  unfold FlagAIs State.autoIndex
  dsimp only
  rw [State.dsCarry_eq, State.dsCarry_eq, movedRegs_congr_step u src w]
  cases segmentFlag src w u.reg16 <;> cases segmentFlag dst w (movedRegs src w u.reg16)
  · simp
  · exact fun _ h => State.adjustA_star_a _ _ (by simpa using h)
  · exact fun _ h => State.adjustA_star_a _ _ (by simpa using h)
  · trivial

/-- The A flag under the columns `C` and `O` (R83). -/
theorem State.autoIndex_own_a (u : State) (w : Nat) (src dst : Option Mem) (before : Bool) :
    FlagAIs (u.autoIndex .own w (src.bind memAuto) (dst.bind memAuto)) w src dst u before (some u.f.a) := by
  unfold FlagAIs State.autoIndex
  dsimp only
  rw [State.dsCarry_eq, State.dsCarry_eq, movedRegs_congr_step u src w]
  cases segmentFlag src w u.reg16 <;> cases segmentFlag dst w (movedRegs src w u.reg16) <;> simp

/-- Of the flags only A can change in the auto-indexing. -/
theorem State.autoIndex_besidesA (u : State) (col : AColumn) (w : Nat) (src dst : Option AutoIndex) :
    FlagsBesidesA (u.autoIndex col w src dst) false u.f := by
  unfold FlagsBesidesA
  exact State.autoIndex_f u col w src dst

/-! ## Whole instructions -/

/-- The A column of the meaning and the `own` of the statement say the same of the flags `g` an operation computes. -/
def ColumnSays (col : AColumn) (own : Option Bool) (before : Bool) (g : Flags) : Prop :=
  (col = .star ∧ own = none ∧ g.a = before) ∨ (col = .own ∧ own = some g.a)

/-- The flags `g` are `f`, A and perhaps V apart. -/
def SameBesidesA (vOpen : Bool) (f g : Flags) : Prop := g = { f with a := g.a, v := if vOpen then g.v else f.v }

/-- The auto-indexing after flags `g` were written: A as the column says. -/
theorem State.autoIndex_flagAIs (u : State) (w : Nat) (src dst : Option Mem) {col : AColumn} {own : Option Bool}
    {before : Bool} (h : ColumnSays col own before u.f) :
    FlagAIs (u.autoIndex col w (src.bind memAuto) (dst.bind memAuto)) w src dst u before own := by
  rcases h with ⟨rfl, rfl, rfl⟩ | ⟨rfl, rfl⟩
  · exact State.autoIndex_star_a u w src dst
  · exact State.autoIndex_own_a u w src dst before

/-- What `FlagAIs` says depends on the registers and the parameters only. -/
theorem FlagAIs.congr {t u u' : State} {w : Nat} {src dst : Option Mem} {before : Bool} {own : Option Bool}
    (hr : ∀ r, u.reg16 r = u'.reg16 r) (hp : u.params = u'.params) (h : FlagAIs t w src dst u before own) :
    FlagAIs t w src dst u' before own := by
  unfold FlagAIs at h ⊢
  rwa [show u.reg16 = u'.reg16 from funext hr, hp] at h

/-- What is said of the flags besides A survives the auto-indexing. -/
theorem State.autoIndex_sameBesidesA (u : State) (col : AColumn) (w : Nat) (src dst : Option AutoIndex) {vOpen : Bool}
    {f : Flags} (h : SameBesidesA vOpen f u.f) : FlagsBesidesA (u.autoIndex col w src dst) vOpen f := by
  have e := State.autoIndex_f u col w src dst
  generalize u.autoIndex col w src dst = t at e
  unfold FlagsBesidesA
  unfold SameBesidesA at h
  rw [h] at e
  rw [e]
  cases vOpen <;> rfl

/-- The linear address of a location is that of its first byte. -/
theorem Ea.addr_eq (ea : Ea) : ea.addr = ea.byte 0 := rfl

/-- Two states of one register set, SP, F and parameters resolve an RM mode alike. -/
theorem State.memEa_congr {s t : State} (hr : s.regs = t.regs) (hs : s.spHi = t.spHi) (hf : s.f = t.f)
    (hp : s.params = t.params) (m : Mem) : s.memEa m = t.memEa m := by
  have h16 := State.reg16_congr hr hs
  have hseg : ∀ seg off, s.inSeg seg off = t.inSeg seg off := by
    intro seg off
    cases seg <;> simp [State.inSeg, State.segBase, hr, hf, hp]
  have hsp : s.sp = t.sp := h16 .sp
  rcases m with m | ⟨seg, p, dir⟩
  · cases m <;> simp [State.memEa, State.plainEa, hseg, h16, hsp]
  · simp [State.memEa, hseg, h16]

/-- The byte store of an instruction's end, as `Stored8`. -/
theorem State.writeLoc8_stored (s : State) (l : Loc8) (v : Byte) {s' t : State} (hm : s'.mem = s.mem)
    (ht : t.mem = (s.writeLoc8 l v s').mem) : Stored8 s t l.memory v := by
  have hread : ∀ a, t.readByte a = (s.writeLoc8 l v s').readByte a := fun a => by simp [State.readByte, ht]
  have hs' : ∀ a, s'.readByte a = s.readByte a := fun a => by simp [State.readByte, hm]
  rcases l with r | m
  · intro a _
    rw [hread, ← hs']
    simp [State.writeLoc8, State.readByte]
  · refine ⟨fun hc => ?_, fun a ha => ?_⟩
    · have : (s.writeLoc8 (.mem m) v s').readByte ((s.memEa m).byte 0) = v :=
        State.readByte_writeByte_same s' (by rw [hm]; exact hc) _ v
      simpa [State.read8, hread] using this
    · rw [hread, ← hs']
      exact State.readByte_writeLoc8_other s (.mem m) v s' ha

/-- The word store of an instruction's end, as `Stored16`. -/
theorem State.writeLoc16_stored (s : State) (l : Loc16) (v : Word) {s' t : State} (hm : s'.mem = s.mem)
    (ht : t.mem = (s.writeLoc16 l v s').mem) : Stored16 s t l.memory v := by
  have hread : ∀ a, t.readByte a = (s.writeLoc16 l v s').readByte a := fun a => by simp [State.readByte, ht]
  have hs' : ∀ a, s'.readByte a = s.readByte a := fun a => by simp [State.readByte, hm]
  rcases l with r | m
  · intro a _
    rw [hread, ← hs']
    simp [State.writeLoc16, State.readByte]
  · refine ⟨fun hc => ?_, fun a ha => ?_⟩
    · have h := State.read16_write16_same s' (by rw [hm]; exact hc) (s.memEa m) v
      simp only [State.read16] at h ⊢
      rw [hread, hread]
      exact h
    · rw [hread, ← hs']
      exact State.readByte_writeLoc16_other s (.mem m) v s' ha

/-- Only data changed, if every other field is the same. -/
theorem dataOnly_of {s x : State} (h1 : x.shadow = s.shadow) (h2 : x.pcHi = s.pcHi) (h3 : x.k = s.k)
    (h4 : x.fShadow = s.fShadow) (h5 : x.e = s.e) (h6 : x.run = s.run) (h7 : x.inputs = s.inputs)
    (h8 : x.portAnswers = s.portAnswers) (h9 : x.ioLog = s.ioLog) (h10 : x.handlers = s.handlers)
    (h11 : x.illegalMode = s.illegalMode) (h12 : x.params = s.params) : DataOnly s x := by
  unfold DataOnly
  cases s
  cases x
  dsimp only at *
  subst_vars
  rfl

/-- An RM instruction of byte size that ends in a write of its destination, flags and the auto-indexing. -/
theorem ends8_of {i : Instr} {s s' : State} {src : Option Mem} {dst : Loc8} {v : Byte} {g f : Flags} {vOpen : Bool}
    {col : AColumn} {own : Option Bool} (hs : s' = { s with fresh := s'.fresh })
    (he : exec i s = .next (((s.writeLoc8 dst v s').setF g).autoIndex col 1 (src.bind memAuto)
      (dst.memory.bind memAuto)))
    (hc : ColumnSays col own s.f.a g) (hf : SameBesidesA vOpen f g) : Ends8 i s src dst v vOpen own f := by
  have hu : ∀ r, ((s.writeLoc8 dst v s').setF g).reg16 r = (s.withReg8 dst v).reg16 r := by
    intro r
    rw [hs]
    cases dst with
    | reg q => cases q <;> cases r <;> rfl
    | mem m => cases r <;> rfl
  have hcc : ((s.writeLoc8 dst v s').setF g).regs.c = (s.withReg8 dst v).regs.c := by
    rw [hs]
    cases dst with
    | reg q => cases q <;> rfl
    | mem m => rfl
  refine ⟨_, he, ?_, ?_, ?_, ?_, ?_⟩
  · apply dataOnly_of <;> simp <;> rw [hs]
  · have h := State.autoIndex_regsAre ((s.writeLoc8 dst v s').setF g) col 1 src dst.memory
    refine ⟨fun r => ?_, h.2.trans hcc⟩
    rw [h.1 r]
    exact congrFun (movedRegs_congr (fun r => congrFun (movedRegs_congr hu src 1) r) dst.memory 1) r
  · refine State.writeLoc8_stored s dst v (s' := s') (by rw [hs]) ?_
    simp
  · exact State.autoIndex_sameBesidesA _ _ _ _ _ hf
  · refine (State.autoIndex_flagAIs _ 1 src dst.memory (before := s.f.a) hc).congr hu ?_
    rw [hs]
    cases dst <;> simp [State.withReg8]

/-- An RM instruction of word size that ends in a write of its destination, flags and the auto-indexing. -/
theorem ends16_of {i : Instr} {s s' : State} {src : Option Mem} {dst : Loc16} {v : Word} {g f : Flags} {vOpen : Bool}
    {col : AColumn} {own : Option Bool} (hs : s' = { s with fresh := s'.fresh })
    (he : exec i s = .next (((s.writeLoc16 dst v s').setF g).autoIndex col 2 (src.bind memAuto)
      (dst.memory.bind memAuto)))
    (hc : ColumnSays col own s.f.a g) (hf : SameBesidesA vOpen f g) : Ends16 i s src dst v vOpen own f := by
  have hu : ∀ r, ((s.writeLoc16 dst v s').setF g).reg16 r = (s.withReg16 dst v).reg16 r := by
    intro r
    rw [hs]
    cases dst with
    | reg q => cases q <;> cases r <;> rfl
    | mem m => cases r <;> rfl
  have hcc : ((s.writeLoc16 dst v s').setF g).regs.c = (s.withReg16 dst v).regs.c := by
    rw [hs]
    cases dst with
    | reg q => cases q <;> rfl
    | mem m => rfl
  refine ⟨_, he, ?_, ?_, ?_, ?_, ?_⟩
  · apply dataOnly_of <;> simp <;> rw [hs]
  · have h := State.autoIndex_regsAre ((s.writeLoc16 dst v s').setF g) col 2 src dst.memory
    refine ⟨fun r => ?_, h.2.trans hcc⟩
    rw [h.1 r]
    exact congrFun (movedRegs_congr (fun r => congrFun (movedRegs_congr hu src 2) r) dst.memory 2) r
  · refine State.writeLoc16_stored s dst v (s' := s') (by rw [hs]) ?_
    simp
  · exact State.autoIndex_sameBesidesA _ _ _ _ _ hf
  · refine (State.autoIndex_flagAIs _ 2 src dst.memory (before := s.f.a) hc).congr hu ?_
    rw [hs]
    cases dst <;> simp [State.withReg16]

/-- An RM instruction that stores nothing: the registers `u`, flags, and the auto-indexing. -/
theorem endsReading_of {i : Instr} {s u u' : State} {w : Nat} {src dst : Option Mem} {g f : Flags} {col : AColumn}
    {own : Option Bool} (hd : DataOnly s u') (hr : ∀ r, u'.reg16 r = u.reg16 r) (hcc : u'.regs.c = u.regs.c)
    (hp : u.params = s.params) (hm : u'.mem = s.mem)
    (he : exec i s = .next ((u'.setF g).autoIndex col w (src.bind memAuto) (dst.bind memAuto)))
    (hc : ColumnSays col own s.f.a g) (hf : SameBesidesA false f g) : EndsReading i s w src dst u own f := by
  have hu : ∀ r, (u'.setF g).reg16 r = u.reg16 r := fun r => (by cases r <;> rfl : (u'.setF g).reg16 r = u'.reg16 r).trans (hr r)
  refine ⟨_, he, ?_, ?_, ?_, ?_, ?_⟩
  · unfold DataOnly at hd
    apply dataOnly_of <;> simp <;> rw [hd]
  · have h := State.autoIndex_regsAre (u'.setF g) col w src dst
    refine ⟨fun r => ?_, h.2.trans hcc⟩
    rw [h.1 r]
    exact congrFun (movedRegs_congr (fun r => congrFun (movedRegs_congr hu src w) r) dst w) r
  · intro a _
    simp [State.readByte, hm]
  · exact State.autoIndex_sameBesidesA _ _ _ _ _ hf
  · refine (State.autoIndex_flagAIs _ w src dst (before := s.f.a) hc).congr hu ?_
    have := congrArg State.params hd
    simpa [hp] using this

end Sys2Proof.Machine
end

