-- ==== Sys2Proof/Laws/Dispatch.lean ====
section
/-! SUPPORT. What `exec` does with each constructor, by name, so that a proof cites its instruction's equation and never
unfolds the whole match. -/

namespace Sys2Proof.Machine

theorem exec_nop (s : State) : exec .nop s = execNop s := rfl
theorem exec_exs (list : RegList) (s : State) : exec (.exs list) s = execExs list s := rfl
theorem exec_djnz8 (r : Acc8) (pcr8 : Byte) (s : State) : exec (.djnz8 r pcr8) s = execDjnz8 r pcr8 s := rfl
theorem exec_djnz16 (r : Acc16) (pcr8 : Byte) (s : State) : exec (.djnz16 r pcr8) s = execDjnz16 r pcr8 s := rfl
theorem exec_halt (s : State) : exec .halt s = execHalt s := rfl
theorem exec_stop (s : State) : exec .stop s = execStop s := rfl
theorem exec_ccf (s : State) : exec .ccf s = execCcf s := rfl
theorem exec_sds (s : State) : exec .sds s = execSds s := rfl
theorem exec_daa (s : State) : exec .daa s = execDaa s := rfl
theorem exec_sao (s : State) : exec .sao s = execSao s := rfl
theorem exec_das (s : State) : exec .das s = execDas s := rfl
theorem exec_sau (s : State) : exec .sau s = execSau s := rfl
theorem exec_repiReg (r : RepReg) (s : State) : exec (.repiReg r) s = execRepiReg r s := rfl
theorem exec_repiImm (field : BitVec 4) (s : State) : exec (.repiImm field) s = execRepiImm field s := rfl
theorem exec_ldpca (dst : Loc16) (pcr16 : Word) (s : State) : exec (.ldpca dst pcr16) s = execLdpca dst pcr16 s := rfl
theorem exec_ldixa (dst : Loc16) (simm : Word) (s : State) : exec (.ldixa dst simm) s = execLdixa dst simm s := rfl
theorem exec_ldspa (dst : Loc16) (imm : Word) (s : State) : exec (.ldspa dst imm) s = execLdspa dst imm s := rfl
theorem exec_ldFromPortInc (dst : Loc8) (s : State) : exec (.ldFromPortInc dst) s = execLdFromPortInc dst s := rfl
theorem exec_ldFromF (dst : Loc8) (s : State) : exec (.ldFromF dst) s = execLdFromF dst s := rfl
theorem exec_ldFromPort (dst : Loc8) (s : State) : exec (.ldFromPort dst) s = execLdFromPort dst s := rfl
theorem exec_ldFromC (dst : Loc8) (s : State) : exec (.ldFromC dst) s = execLdFromC dst s := rfl
theorem exec_ldFromPortDec (dst : Loc8) (s : State) : exec (.ldFromPortDec dst) s = execLdFromPortDec dst s := rfl
theorem exec_ldFromE (dst : Loc8) (s : State) : exec (.ldFromE dst) s = execLdFromE dst s := rfl
theorem exec_mulu (src : Src8) (s : State) : exec (.mulu src) s = execMulu src s := rfl
theorem exec_mulsw (src : Src16) (s : State) : exec (.mulsw src) s = execMulsw src s := rfl
theorem exec_divu (src : Src8) (s : State) : exec (.divu src) s = execDivu src s := rfl
theorem exec_divsw (src : Src16) (s : State) : exec (.divsw src) s = execDivsw src s := rfl
theorem exec_ldPortInc (src : Src8) (s : State) : exec (.ldPortInc src) s = execLdPortInc src s := rfl
theorem exec_ldF (src : Src8) (s : State) : exec (.ldF src) s = execLdF src s := rfl
theorem exec_ldPort (src : Src8) (s : State) : exec (.ldPort src) s = execLdPort src s := rfl
theorem exec_ldC (src : Src8) (s : State) : exec (.ldC src) s = execLdC src s := rfl
theorem exec_ldPortDec (src : Src8) (s : State) : exec (.ldPortDec src) s = execLdPortDec src s := rfl
theorem exec_ldE (src : Src8) (s : State) : exec (.ldE src) s = execLdE src s := rfl
theorem exec_resf (mask : Byte) (s : State) : exec (.resf mask) s = execResf mask s := rfl
theorem exec_di (mask : Byte) (s : State) : exec (.di mask) s = execDi mask s := rfl
theorem exec_setf (mask : Byte) (s : State) : exec (.setf mask) s = execSetf mask s := rfl
theorem exec_ei (mask : Byte) (s : State) : exec (.ei mask) s = execEi mask s := rfl
theorem exec_inc (field : BitVec 3) (dst : Loc8) (s : State) : exec (.inc field dst) s = execInc field dst s := rfl
theorem exec_dec (field : BitVec 3) (dst : Loc8) (s : State) : exec (.dec field dst) s = execDec field dst s := rfl
theorem exec_neg (dst : Loc8) (s : State) : exec (.neg dst) s = execNeg dst s := rfl
theorem exec_cpl (dst : Loc8) (s : State) : exec (.cpl dst) s = execCpl dst s := rfl
theorem exec_ngc (dst : Loc8) (s : State) : exec (.ngc dst) s = execNgc dst s := rfl
theorem exec_clr (dst : Loc8) (s : State) : exec (.clr dst) s = execClr dst s := rfl
theorem exec_incw (field : BitVec 3) (dst : Loc16) (s : State) : exec (.incw field dst) s = execIncw field dst s := rfl
theorem exec_decw (field : BitVec 3) (dst : Loc16) (s : State) : exec (.decw field dst) s = execDecw field dst s := rfl
theorem exec_negw (dst : Loc16) (s : State) : exec (.negw dst) s = execNegw dst s := rfl
theorem exec_cplw (dst : Loc16) (s : State) : exec (.cplw dst) s = execCplw dst s := rfl
theorem exec_ngcw (dst : Loc16) (s : State) : exec (.ngcw dst) s = execNgcw dst s := rfl
theorem exec_clrw (dst : Loc16) (s : State) : exec (.clrw dst) s = execClrw dst s := rfl
theorem exec_rlc (dst : Loc8) (s : State) : exec (.rlc dst) s = execRlc dst s := rfl
theorem exec_rrc (dst : Loc8) (s : State) : exec (.rrc dst) s = execRrc dst s := rfl
theorem exec_rl (dst : Loc8) (s : State) : exec (.rl dst) s = execRl dst s := rfl
theorem exec_rr (dst : Loc8) (s : State) : exec (.rr dst) s = execRr dst s := rfl
theorem exec_sla (dst : Loc8) (s : State) : exec (.sla dst) s = execSla dst s := rfl
theorem exec_sra (dst : Loc8) (s : State) : exec (.sra dst) s = execSra dst s := rfl
theorem exec_swap (dst : Loc8) (s : State) : exec (.swap dst) s = execSwap dst s := rfl
theorem exec_srl (dst : Loc8) (s : State) : exec (.srl dst) s = execSrl dst s := rfl
theorem exec_rlcw (dst : Loc16) (s : State) : exec (.rlcw dst) s = execRlcw dst s := rfl
theorem exec_rrcw (dst : Loc16) (s : State) : exec (.rrcw dst) s = execRrcw dst s := rfl
theorem exec_rlw (dst : Loc16) (s : State) : exec (.rlw dst) s = execRlw dst s := rfl
theorem exec_rrw (dst : Loc16) (s : State) : exec (.rrw dst) s = execRrw dst s := rfl
theorem exec_slaw (dst : Loc16) (s : State) : exec (.slaw dst) s = execSlaw dst s := rfl
theorem exec_sraw (dst : Loc16) (s : State) : exec (.sraw dst) s = execSraw dst s := rfl
theorem exec_swapw (dst : Loc16) (s : State) : exec (.swapw dst) s = execSwapw dst s := rfl
theorem exec_srlw (dst : Loc16) (s : State) : exec (.srlw dst) s = execSrlw dst s := rfl
theorem exec_bitImmPort (bit : BitVec 3) (s : State) : exec (.bitImmPort bit) s = execBitImmPort bit s := rfl
theorem exec_resImmPort (bit : BitVec 3) (s : State) : exec (.resImmPort bit) s = execResImmPort bit s := rfl
theorem exec_setImmPort (bit : BitVec 3) (s : State) : exec (.setImmPort bit) s = execSetImmPort bit s := rfl
theorem exec_bitImm (bit : BitVec 3) (src : Src8) (s : State) : exec (.bitImm bit src) s = execBitImm bit src s := rfl
theorem exec_resImm (bit : BitVec 3) (dst : Loc8) (s : State) : exec (.resImm bit dst) s = execResImm bit dst s := rfl
theorem exec_setImm (bit : BitVec 3) (dst : Loc8) (s : State) : exec (.setImm bit dst) s = execSetImm bit dst s := rfl
theorem exec_bitAccPort (r : Acc8) (s : State) : exec (.bitAccPort r) s = execBitAccPort r s := rfl
theorem exec_resAccPort (r : Acc8) (s : State) : exec (.resAccPort r) s = execResAccPort r s := rfl
theorem exec_setAccPort (r : Acc8) (s : State) : exec (.setAccPort r) s = execSetAccPort r s := rfl
theorem exec_bitAcc (r : Acc8) (src : Src8) (s : State) : exec (.bitAcc r src) s = execBitAcc r src s := rfl
theorem exec_resAcc (r : Acc8) (dst : Loc8) (s : State) : exec (.resAcc r dst) s = execResAcc r dst s := rfl
theorem exec_setAcc (r : Acc8) (dst : Loc8) (s : State) : exec (.setAcc r dst) s = execSetAcc r dst s := rfl
theorem exec_ldCImm (imm : Byte) (s : State) : exec (.ldCImm imm) s = execLdCImm imm s := rfl
theorem exec_addCImm (imm : Byte) (s : State) : exec (.addCImm imm) s = execAddCImm imm s := rfl
theorem exec_popF (s : State) : exec .popF s = execPopF s := rfl
theorem exec_popGpr (s : State) : exec .popGpr s = execPopGpr s := rfl
theorem exec_popAll (s : State) : exec .popAll s = execPopAll s := rfl
theorem exec_pop (dst : Loc16) (s : State) : exec (.pop dst) s = execPop dst s := rfl
theorem exec_pushKF (s : State) : exec .pushKF s = execPushKF s := rfl
theorem exec_pushGpr (s : State) : exec .pushGpr s = execPushGpr s := rfl
theorem exec_pushAll (s : State) : exec .pushAll s = execPushAll s := rfl
theorem exec_push (src : Src16) (s : State) : exec (.push src) s = execPush src s := rfl
theorem exec_stZm8 (dst : Zm) (r : Acc8) (s : State) : exec (.stZm8 dst r) s = execStZm8 dst r s := rfl
theorem exec_ldZm8 (r : Acc8) (src : Zm) (s : State) : exec (.ldZm8 r src) s = execLdZm8 r src s := rfl
theorem exec_stZm16 (dst : Zm) (r : Acc16) (s : State) : exec (.stZm16 dst r) s = execStZm16 dst r s := rfl
theorem exec_ldZm16 (r : Acc16) (src : Zm) (s : State) : exec (.ldZm16 r src) s = execLdZm16 r src s := rfl
theorem exec_ld (dst : Loc8) (src : Src8) (s : State) : exec (.ld dst src) s = execLd dst src s := rfl
theorem exec_ldw (dst : Loc16) (src : Src16) (s : State) : exec (.ldw dst src) s = execLdw dst src s := rfl
theorem exec_ldRegImm (r : Reg8) (imm : Byte) (s : State) : exec (.ldRegImm r imm) s = execLdRegImm r imm s := rfl
theorem exec_addImm8 (r : Acc8) (imm : Byte) (s : State) : exec (.addImm8 r imm) s = execAddImm8 r imm s := rfl
theorem exec_addSrc8 (r : Acc8) (src : Src8) (s : State) : exec (.addSrc8 r src) s = execAddSrc8 r src s := rfl
theorem exec_addDst8 (dst : Loc8) (r : Acc8) (s : State) : exec (.addDst8 dst r) s = execAddDst8 dst r s := rfl
theorem exec_addImm16 (r : Acc16) (imm : Byte) (s : State) : exec (.addImm16 r imm) s = execAddImm16 r imm s := rfl
theorem exec_addSrc16 (r : Acc16) (src : Src16) (s : State) : exec (.addSrc16 r src) s = execAddSrc16 r src s := rfl
theorem exec_addDst16 (dst : Loc16) (r : Acc16) (s : State) : exec (.addDst16 dst r) s = execAddDst16 dst r s := rfl
theorem exec_adcImm8 (r : Acc8) (imm : Byte) (s : State) : exec (.adcImm8 r imm) s = execAdcImm8 r imm s := rfl
theorem exec_adcSrc8 (r : Acc8) (src : Src8) (s : State) : exec (.adcSrc8 r src) s = execAdcSrc8 r src s := rfl
theorem exec_adcDst8 (dst : Loc8) (r : Acc8) (s : State) : exec (.adcDst8 dst r) s = execAdcDst8 dst r s := rfl
theorem exec_adcImm16 (r : Acc16) (imm : Byte) (s : State) : exec (.adcImm16 r imm) s = execAdcImm16 r imm s := rfl
theorem exec_adcSrc16 (r : Acc16) (src : Src16) (s : State) : exec (.adcSrc16 r src) s = execAdcSrc16 r src s := rfl
theorem exec_adcDst16 (dst : Loc16) (r : Acc16) (s : State) : exec (.adcDst16 dst r) s = execAdcDst16 dst r s := rfl
theorem exec_subImm8 (r : Acc8) (imm : Byte) (s : State) : exec (.subImm8 r imm) s = execSubImm8 r imm s := rfl
theorem exec_subSrc8 (r : Acc8) (src : Src8) (s : State) : exec (.subSrc8 r src) s = execSubSrc8 r src s := rfl
theorem exec_subDst8 (dst : Loc8) (r : Acc8) (s : State) : exec (.subDst8 dst r) s = execSubDst8 dst r s := rfl
theorem exec_subImm16 (r : Acc16) (imm : Byte) (s : State) : exec (.subImm16 r imm) s = execSubImm16 r imm s := rfl
theorem exec_subSrc16 (r : Acc16) (src : Src16) (s : State) : exec (.subSrc16 r src) s = execSubSrc16 r src s := rfl
theorem exec_subDst16 (dst : Loc16) (r : Acc16) (s : State) : exec (.subDst16 dst r) s = execSubDst16 dst r s := rfl
theorem exec_sbcImm8 (r : Acc8) (imm : Byte) (s : State) : exec (.sbcImm8 r imm) s = execSbcImm8 r imm s := rfl
theorem exec_sbcSrc8 (r : Acc8) (src : Src8) (s : State) : exec (.sbcSrc8 r src) s = execSbcSrc8 r src s := rfl
theorem exec_sbcDst8 (dst : Loc8) (r : Acc8) (s : State) : exec (.sbcDst8 dst r) s = execSbcDst8 dst r s := rfl
theorem exec_sbcImm16 (r : Acc16) (imm : Byte) (s : State) : exec (.sbcImm16 r imm) s = execSbcImm16 r imm s := rfl
theorem exec_sbcSrc16 (r : Acc16) (src : Src16) (s : State) : exec (.sbcSrc16 r src) s = execSbcSrc16 r src s := rfl
theorem exec_sbcDst16 (dst : Loc16) (r : Acc16) (s : State) : exec (.sbcDst16 dst r) s = execSbcDst16 dst r s := rfl
theorem exec_andImm8 (r : Acc8) (imm : Byte) (s : State) : exec (.andImm8 r imm) s = execAndImm8 r imm s := rfl
theorem exec_andSrc8 (r : Acc8) (src : Src8) (s : State) : exec (.andSrc8 r src) s = execAndSrc8 r src s := rfl
theorem exec_andDst8 (dst : Loc8) (r : Acc8) (s : State) : exec (.andDst8 dst r) s = execAndDst8 dst r s := rfl
theorem exec_andImm16 (r : Acc16) (imm : Byte) (s : State) : exec (.andImm16 r imm) s = execAndImm16 r imm s := rfl
theorem exec_andSrc16 (r : Acc16) (src : Src16) (s : State) : exec (.andSrc16 r src) s = execAndSrc16 r src s := rfl
theorem exec_andDst16 (dst : Loc16) (r : Acc16) (s : State) : exec (.andDst16 dst r) s = execAndDst16 dst r s := rfl
theorem exec_xorImm8 (r : Acc8) (imm : Byte) (s : State) : exec (.xorImm8 r imm) s = execXorImm8 r imm s := rfl
theorem exec_xorSrc8 (r : Acc8) (src : Src8) (s : State) : exec (.xorSrc8 r src) s = execXorSrc8 r src s := rfl
theorem exec_xorDst8 (dst : Loc8) (r : Acc8) (s : State) : exec (.xorDst8 dst r) s = execXorDst8 dst r s := rfl
theorem exec_xorImm16 (r : Acc16) (imm : Byte) (s : State) : exec (.xorImm16 r imm) s = execXorImm16 r imm s := rfl
theorem exec_xorSrc16 (r : Acc16) (src : Src16) (s : State) : exec (.xorSrc16 r src) s = execXorSrc16 r src s := rfl
theorem exec_xorDst16 (dst : Loc16) (r : Acc16) (s : State) : exec (.xorDst16 dst r) s = execXorDst16 dst r s := rfl
theorem exec_orImm8 (r : Acc8) (imm : Byte) (s : State) : exec (.orImm8 r imm) s = execOrImm8 r imm s := rfl
theorem exec_orSrc8 (r : Acc8) (src : Src8) (s : State) : exec (.orSrc8 r src) s = execOrSrc8 r src s := rfl
theorem exec_orDst8 (dst : Loc8) (r : Acc8) (s : State) : exec (.orDst8 dst r) s = execOrDst8 dst r s := rfl
theorem exec_orImm16 (r : Acc16) (imm : Byte) (s : State) : exec (.orImm16 r imm) s = execOrImm16 r imm s := rfl
theorem exec_orSrc16 (r : Acc16) (src : Src16) (s : State) : exec (.orSrc16 r src) s = execOrSrc16 r src s := rfl
theorem exec_orDst16 (dst : Loc16) (r : Acc16) (s : State) : exec (.orDst16 dst r) s = execOrDst16 dst r s := rfl
theorem exec_cpImm8 (r : Acc8) (imm : Byte) (s : State) : exec (.cpImm8 r imm) s = execCpImm8 r imm s := rfl
theorem exec_cpSrc8 (r : Acc8) (src : Src8) (s : State) : exec (.cpSrc8 r src) s = execCpSrc8 r src s := rfl
theorem exec_cpDst8 (dst : Loc8) (r : Acc8) (s : State) : exec (.cpDst8 dst r) s = execCpDst8 dst r s := rfl
theorem exec_cpImm16 (r : Acc16) (imm : Byte) (s : State) : exec (.cpImm16 r imm) s = execCpImm16 r imm s := rfl
theorem exec_cpSrc16 (r : Acc16) (src : Src16) (s : State) : exec (.cpSrc16 r src) s = execCpSrc16 r src s := rfl
theorem exec_cpDst16 (dst : Loc16) (r : Acc16) (s : State) : exec (.cpDst16 dst r) s = execCpDst16 dst r s := rfl
theorem exec_callr (pcr10 : BitVec 10) (s : State) : exec (.callr pcr10) s = execCallr pcr10 s := rfl
theorem exec_call (addr : Src16) (s : State) : exec (.call addr) s = execCall addr s := rfl
theorem exec_calld (addr : Src16) (s : State) : exec (.calld addr) s = execCalld addr s := rfl
theorem exec_callfMem (src : PlainMem) (s : State) : exec (.callfMem src) s = execCallfMem src s := rfl
theorem exec_callrl (pcr15 : BitVec 15) (s : State) : exec (.callrl pcr15) s = execCallrl pcr15 s := rfl
theorem exec_callfAbs (bank : Byte) (a16 : Word) (s : State) :
    exec (.callfAbs bank a16) s = execCallfAbs bank a16 s := rfl
theorem exec_rst (num : Byte) (s : State) : exec (.rst num) s = execRst num s := rfl
theorem exec_reti (int : BitVec 3) (s : State) : exec (.reti int) s = execReti int s := rfl
theorem exec_jr (cond : Cond) (pcr10 : BitVec 10) (s : State) : exec (.jr cond pcr10) s = execJr cond pcr10 s := rfl
theorem exec_jp (cond : Cond) (addr : Src16) (s : State) : exec (.jp cond addr) s = execJp cond addr s := rfl
theorem exec_jpd (cond : Cond) (addr : Src16) (s : State) : exec (.jpd cond addr) s = execJpd cond addr s := rfl
theorem exec_jpfMem (cond : Cond) (src : PlainMem) (s : State) :
    exec (.jpfMem cond src) s = execJpfMem cond src s := rfl
theorem exec_jrl (cond : Cond) (pcr15 : BitVec 15) (s : State) : exec (.jrl cond pcr15) s = execJrl cond pcr15 s := rfl
theorem exec_jpfAbs (cond : Cond) (bank : Byte) (a16 : Word) (s : State) :
    exec (.jpfAbs cond bank a16) s = execJpfAbs cond bank a16 s := rfl
theorem exec_ret (cond : Cond) (s : State) : exec (.ret cond) s = execRet cond s := rfl
theorem exec_retf (cond : Cond) (s : State) : exec (.retf cond) s = execRetf cond s := rfl

end Sys2Proof.Machine
end

