-- ==== Sys2Proof/Laws/Flags.lean ====
section
/-! SUPPORT. F and its byte say the same (log 33), the shadow flags with EXS, and the parameters of the flag functions. -/

namespace Sys2Proof.Machine

/-- F comes back from its byte. -/
@[simp] theorem Flags.ofByte_toByte (f : Flags) : Flags.ofByte f.toByte = f := by
  obtain ⟨s, z, i, h, a, v, d, c⟩ := f
  cases s <;> cases z <;> cases i <;> cases h <;> cases a <;> cases v <;> cases d <;> cases c <;> rfl

/-- A byte comes back from F. -/
@[simp] theorem Flags.toByte_ofByte (b : Byte) : (Flags.ofByte b).toByte = b := by
  revert b; decide

/-- F' comes back from its byte, whatever stands in bit 5. -/
@[simp] theorem ShadowFlags.ofByte_toByte (f : ShadowFlags) (x : Bool) : ShadowFlags.ofByte (f.toByte x) = f := by
  obtain ⟨s, z, h, a, v, d, c⟩ := f
  cases s <;> cases z <;> cases h <;> cases a <;> cases v <;> cases d <;> cases c <;> cases x <;> rfl

/-- The flags EXS moves out of F and back in are F. -/
@[simp] theorem Flags.withShadow_toShadow (f : Flags) : f.withShadow f.toShadow = f := rfl

/-- EXS moves the seven flags of F' in whole. -/
@[simp] theorem Flags.toShadow_withShadow (f : Flags) (g : ShadowFlags) : (f.withShadow g).toShadow = g := rfl

/-! ## The parameters of the flag functions at the two widths -/

@[simp] theorem Params.halfMod_8 (p : Params) : p.halfMod 8 = 16 := rfl

@[simp] theorem Params.halfMod_16 (p : Params) : p.halfMod 16 = 2 ^ (p.h16Bit.val + 1) := rfl

@[simp] theorem Params.parityBits_8 (p : Params) : p.parityBits 8 = 8 := rfl

@[simp] theorem Params.parityBits_16 (p : Params) : p.parityBits 16 = p.parityWidth.val := rfl

end Sys2Proof.Machine
end

