-- ==== Sys2Proof/Laws/PerInstr.lean ====
section
/-! SUPPORT. The family ExtensionWords: every instruction has at most two extension words (30_encoding.md R100), one
lemma per constructor. -/

namespace Sys2Proof

/-- A memory mode without auto-index takes at most one extension word (30_encoding.md R103). -/
theorem PlainMem.ext_length_le (m : PlainMem) : m.ext.length ≤ 1 := by cases m <;> simp [PlainMem.ext]

/-- A memory mode takes at most one extension word (30_encoding.md R103). -/
theorem Mem.ext_length_le (m : Mem) : m.ext.length ≤ 1 := by
  cases m with
  | plain m => exact m.ext_length_le
  | auto _ _ _ => simp [Mem.ext]

/-- An rm8 destination takes at most one extension word. -/
theorem Loc8.ext_length_le (l : Loc8) : l.ext.length ≤ 1 := by
  cases l with
  | reg _ => simp [Loc8.ext]
  | mem m => exact m.ext_length_le

/-- An rm8 source takes at most one extension word. -/
theorem Src8.ext_length_le (l : Src8) : l.ext.length ≤ 1 := by
  cases l with
  | imm _ => simp [Src8.ext]
  | loc l => exact l.ext_length_le

/-- An rm16 destination takes at most one extension word. -/
theorem Loc16.ext_length_le (l : Loc16) : l.ext.length ≤ 1 := by
  cases l with
  | reg _ => simp [Loc16.ext]
  | mem m => exact m.ext_length_le

/-- An rm16 source takes at most one extension word. -/
theorem Src16.ext_length_le (l : Src16) : l.ext.length ≤ 1 := by
  cases l with
  | imm _ => simp [Src16.ext]
  | pseudo _ => simp [Src16.ext]
  | loc l => exact l.ext_length_le

/-- Two operands of at most one extension word each take at most two. -/
theorem append_length_le {a b : List Word} (ha : a.length ≤ 1) (hb : b.length ≤ 1) : (a ++ b).length ≤ 2 := by
  rw [List.length_append]; omega

/-- At most two extension words, and as many whatever the parameters, which only move bits inside a word (R106). -/
def Laws.ExtensionWords.Statement (i : Instr) : Prop :=
  ∀ ps : Machine.Params, (i.ext ps).length ≤ 2 ∧ (i.ext ps).length = (i.ext .default).length

theorem Laws.ExtensionWords.nop :
    Laws.ExtensionWords.Statement (.nop) :=
  fun _ => ⟨Nat.zero_le 2, rfl⟩

theorem Laws.ExtensionWords.exs (list : RegList) :
    Laws.ExtensionWords.Statement (.exs list) :=
  fun _ => ⟨Nat.zero_le 2, rfl⟩

theorem Laws.ExtensionWords.djnz8 (r : Acc8) (pcr8 : Byte) :
    Laws.ExtensionWords.Statement (.djnz8 r pcr8) :=
  fun _ => ⟨Nat.zero_le 2, rfl⟩

theorem Laws.ExtensionWords.djnz16 (r : Acc16) (pcr8 : Byte) :
    Laws.ExtensionWords.Statement (.djnz16 r pcr8) :=
  fun _ => ⟨Nat.zero_le 2, rfl⟩

theorem Laws.ExtensionWords.halt :
    Laws.ExtensionWords.Statement (.halt) :=
  fun _ => ⟨Nat.zero_le 2, rfl⟩

theorem Laws.ExtensionWords.stop :
    Laws.ExtensionWords.Statement (.stop) :=
  fun _ => ⟨Nat.zero_le 2, rfl⟩

theorem Laws.ExtensionWords.ccf :
    Laws.ExtensionWords.Statement (.ccf) :=
  fun _ => ⟨Nat.zero_le 2, rfl⟩

theorem Laws.ExtensionWords.sds :
    Laws.ExtensionWords.Statement (.sds) :=
  fun _ => ⟨Nat.zero_le 2, rfl⟩

theorem Laws.ExtensionWords.daa :
    Laws.ExtensionWords.Statement (.daa) :=
  fun _ => ⟨Nat.zero_le 2, rfl⟩

theorem Laws.ExtensionWords.sao :
    Laws.ExtensionWords.Statement (.sao) :=
  fun _ => ⟨Nat.zero_le 2, rfl⟩

theorem Laws.ExtensionWords.das :
    Laws.ExtensionWords.Statement (.das) :=
  fun _ => ⟨Nat.zero_le 2, rfl⟩

theorem Laws.ExtensionWords.sau :
    Laws.ExtensionWords.Statement (.sau) :=
  fun _ => ⟨Nat.zero_le 2, rfl⟩

theorem Laws.ExtensionWords.repiReg (r : RepReg) :
    Laws.ExtensionWords.Statement (.repiReg r) :=
  fun _ => ⟨Nat.zero_le 2, rfl⟩

theorem Laws.ExtensionWords.repiImm (field : BitVec 4) :
    Laws.ExtensionWords.Statement (.repiImm field) :=
  fun _ => ⟨Nat.zero_le 2, rfl⟩

theorem Laws.ExtensionWords.ldpca (dst : Loc16) (pcr16 : Word) :
    Laws.ExtensionWords.Statement (.ldpca dst pcr16) :=
  fun _ => ⟨Nat.succ_le_succ dst.ext_length_le, rfl⟩

theorem Laws.ExtensionWords.ldixa (dst : Loc16) (simm : Word) :
    Laws.ExtensionWords.Statement (.ldixa dst simm) :=
  fun _ => ⟨Nat.succ_le_succ dst.ext_length_le, rfl⟩

theorem Laws.ExtensionWords.ldspa (dst : Loc16) (imm : Word) :
    Laws.ExtensionWords.Statement (.ldspa dst imm) :=
  fun _ => ⟨Nat.succ_le_succ dst.ext_length_le, rfl⟩

theorem Laws.ExtensionWords.ldFromPortInc (dst : Loc8) :
    Laws.ExtensionWords.Statement (.ldFromPortInc dst) :=
  fun _ => ⟨Nat.le_succ_of_le dst.ext_length_le, rfl⟩

theorem Laws.ExtensionWords.ldFromF (dst : Loc8) :
    Laws.ExtensionWords.Statement (.ldFromF dst) :=
  fun _ => ⟨Nat.le_succ_of_le dst.ext_length_le, rfl⟩

theorem Laws.ExtensionWords.ldFromPort (dst : Loc8) :
    Laws.ExtensionWords.Statement (.ldFromPort dst) :=
  fun _ => ⟨Nat.le_succ_of_le dst.ext_length_le, rfl⟩

theorem Laws.ExtensionWords.ldFromC (dst : Loc8) :
    Laws.ExtensionWords.Statement (.ldFromC dst) :=
  fun _ => ⟨Nat.le_succ_of_le dst.ext_length_le, rfl⟩

theorem Laws.ExtensionWords.ldFromPortDec (dst : Loc8) :
    Laws.ExtensionWords.Statement (.ldFromPortDec dst) :=
  fun _ => ⟨Nat.le_succ_of_le dst.ext_length_le, rfl⟩

theorem Laws.ExtensionWords.ldFromE (dst : Loc8) :
    Laws.ExtensionWords.Statement (.ldFromE dst) :=
  fun _ => ⟨Nat.le_succ_of_le dst.ext_length_le, rfl⟩

theorem Laws.ExtensionWords.mulu (src : Src8) :
    Laws.ExtensionWords.Statement (.mulu src) :=
  fun _ => ⟨Nat.le_succ_of_le src.ext_length_le, rfl⟩

theorem Laws.ExtensionWords.mulsw (src : Src16) :
    Laws.ExtensionWords.Statement (.mulsw src) :=
  fun _ => ⟨Nat.le_succ_of_le src.ext_length_le, rfl⟩

theorem Laws.ExtensionWords.divu (src : Src8) :
    Laws.ExtensionWords.Statement (.divu src) :=
  fun _ => ⟨Nat.le_succ_of_le src.ext_length_le, rfl⟩

theorem Laws.ExtensionWords.divsw (src : Src16) :
    Laws.ExtensionWords.Statement (.divsw src) :=
  fun _ => ⟨Nat.le_succ_of_le src.ext_length_le, rfl⟩

theorem Laws.ExtensionWords.ldPortInc (src : Src8) :
    Laws.ExtensionWords.Statement (.ldPortInc src) :=
  fun _ => ⟨Nat.le_succ_of_le src.ext_length_le, rfl⟩

theorem Laws.ExtensionWords.ldF (src : Src8) :
    Laws.ExtensionWords.Statement (.ldF src) :=
  fun _ => ⟨Nat.le_succ_of_le src.ext_length_le, rfl⟩

theorem Laws.ExtensionWords.ldPort (src : Src8) :
    Laws.ExtensionWords.Statement (.ldPort src) :=
  fun _ => ⟨Nat.le_succ_of_le src.ext_length_le, rfl⟩

theorem Laws.ExtensionWords.ldC (src : Src8) :
    Laws.ExtensionWords.Statement (.ldC src) :=
  fun _ => ⟨Nat.le_succ_of_le src.ext_length_le, rfl⟩

theorem Laws.ExtensionWords.ldPortDec (src : Src8) :
    Laws.ExtensionWords.Statement (.ldPortDec src) :=
  fun _ => ⟨Nat.le_succ_of_le src.ext_length_le, rfl⟩

theorem Laws.ExtensionWords.ldE (src : Src8) :
    Laws.ExtensionWords.Statement (.ldE src) :=
  fun _ => ⟨Nat.le_succ_of_le src.ext_length_le, rfl⟩

theorem Laws.ExtensionWords.resf (mask : Byte) :
    Laws.ExtensionWords.Statement (.resf mask) :=
  fun _ => ⟨Nat.zero_le 2, rfl⟩

theorem Laws.ExtensionWords.di (mask : Byte) :
    Laws.ExtensionWords.Statement (.di mask) :=
  fun _ => ⟨Nat.zero_le 2, rfl⟩

theorem Laws.ExtensionWords.setf (mask : Byte) :
    Laws.ExtensionWords.Statement (.setf mask) :=
  fun _ => ⟨Nat.zero_le 2, rfl⟩

theorem Laws.ExtensionWords.ei (mask : Byte) :
    Laws.ExtensionWords.Statement (.ei mask) :=
  fun _ => ⟨Nat.zero_le 2, rfl⟩

theorem Laws.ExtensionWords.inc (field : BitVec 3) (dst : Loc8) :
    Laws.ExtensionWords.Statement (.inc field dst) :=
  fun _ => ⟨Nat.le_succ_of_le dst.ext_length_le, rfl⟩

theorem Laws.ExtensionWords.dec (field : BitVec 3) (dst : Loc8) :
    Laws.ExtensionWords.Statement (.dec field dst) :=
  fun _ => ⟨Nat.le_succ_of_le dst.ext_length_le, rfl⟩

theorem Laws.ExtensionWords.neg (dst : Loc8) :
    Laws.ExtensionWords.Statement (.neg dst) :=
  fun _ => ⟨Nat.le_succ_of_le dst.ext_length_le, rfl⟩

theorem Laws.ExtensionWords.cpl (dst : Loc8) :
    Laws.ExtensionWords.Statement (.cpl dst) :=
  fun _ => ⟨Nat.le_succ_of_le dst.ext_length_le, rfl⟩

theorem Laws.ExtensionWords.ngc (dst : Loc8) :
    Laws.ExtensionWords.Statement (.ngc dst) :=
  fun _ => ⟨Nat.le_succ_of_le dst.ext_length_le, rfl⟩

theorem Laws.ExtensionWords.clr (dst : Loc8) :
    Laws.ExtensionWords.Statement (.clr dst) :=
  fun _ => ⟨Nat.le_succ_of_le dst.ext_length_le, rfl⟩

theorem Laws.ExtensionWords.incw (field : BitVec 3) (dst : Loc16) :
    Laws.ExtensionWords.Statement (.incw field dst) :=
  fun _ => ⟨Nat.le_succ_of_le dst.ext_length_le, rfl⟩

theorem Laws.ExtensionWords.decw (field : BitVec 3) (dst : Loc16) :
    Laws.ExtensionWords.Statement (.decw field dst) :=
  fun _ => ⟨Nat.le_succ_of_le dst.ext_length_le, rfl⟩

theorem Laws.ExtensionWords.negw (dst : Loc16) :
    Laws.ExtensionWords.Statement (.negw dst) :=
  fun _ => ⟨Nat.le_succ_of_le dst.ext_length_le, rfl⟩

theorem Laws.ExtensionWords.cplw (dst : Loc16) :
    Laws.ExtensionWords.Statement (.cplw dst) :=
  fun _ => ⟨Nat.le_succ_of_le dst.ext_length_le, rfl⟩

theorem Laws.ExtensionWords.ngcw (dst : Loc16) :
    Laws.ExtensionWords.Statement (.ngcw dst) :=
  fun _ => ⟨Nat.le_succ_of_le dst.ext_length_le, rfl⟩

theorem Laws.ExtensionWords.clrw (dst : Loc16) :
    Laws.ExtensionWords.Statement (.clrw dst) :=
  fun _ => ⟨Nat.le_succ_of_le dst.ext_length_le, rfl⟩

theorem Laws.ExtensionWords.rlc (dst : Loc8) :
    Laws.ExtensionWords.Statement (.rlc dst) :=
  fun _ => ⟨Nat.le_succ_of_le dst.ext_length_le, rfl⟩

theorem Laws.ExtensionWords.rrc (dst : Loc8) :
    Laws.ExtensionWords.Statement (.rrc dst) :=
  fun _ => ⟨Nat.le_succ_of_le dst.ext_length_le, rfl⟩

theorem Laws.ExtensionWords.rl (dst : Loc8) :
    Laws.ExtensionWords.Statement (.rl dst) :=
  fun _ => ⟨Nat.le_succ_of_le dst.ext_length_le, rfl⟩

theorem Laws.ExtensionWords.rr (dst : Loc8) :
    Laws.ExtensionWords.Statement (.rr dst) :=
  fun _ => ⟨Nat.le_succ_of_le dst.ext_length_le, rfl⟩

theorem Laws.ExtensionWords.sla (dst : Loc8) :
    Laws.ExtensionWords.Statement (.sla dst) :=
  fun _ => ⟨Nat.le_succ_of_le dst.ext_length_le, rfl⟩

theorem Laws.ExtensionWords.sra (dst : Loc8) :
    Laws.ExtensionWords.Statement (.sra dst) :=
  fun _ => ⟨Nat.le_succ_of_le dst.ext_length_le, rfl⟩

theorem Laws.ExtensionWords.swap (dst : Loc8) :
    Laws.ExtensionWords.Statement (.swap dst) :=
  fun _ => ⟨Nat.le_succ_of_le dst.ext_length_le, rfl⟩

theorem Laws.ExtensionWords.srl (dst : Loc8) :
    Laws.ExtensionWords.Statement (.srl dst) :=
  fun _ => ⟨Nat.le_succ_of_le dst.ext_length_le, rfl⟩

theorem Laws.ExtensionWords.rlcw (dst : Loc16) :
    Laws.ExtensionWords.Statement (.rlcw dst) :=
  fun _ => ⟨Nat.le_succ_of_le dst.ext_length_le, rfl⟩

theorem Laws.ExtensionWords.rrcw (dst : Loc16) :
    Laws.ExtensionWords.Statement (.rrcw dst) :=
  fun _ => ⟨Nat.le_succ_of_le dst.ext_length_le, rfl⟩

theorem Laws.ExtensionWords.rlw (dst : Loc16) :
    Laws.ExtensionWords.Statement (.rlw dst) :=
  fun _ => ⟨Nat.le_succ_of_le dst.ext_length_le, rfl⟩

theorem Laws.ExtensionWords.rrw (dst : Loc16) :
    Laws.ExtensionWords.Statement (.rrw dst) :=
  fun _ => ⟨Nat.le_succ_of_le dst.ext_length_le, rfl⟩

theorem Laws.ExtensionWords.slaw (dst : Loc16) :
    Laws.ExtensionWords.Statement (.slaw dst) :=
  fun _ => ⟨Nat.le_succ_of_le dst.ext_length_le, rfl⟩

theorem Laws.ExtensionWords.sraw (dst : Loc16) :
    Laws.ExtensionWords.Statement (.sraw dst) :=
  fun _ => ⟨Nat.le_succ_of_le dst.ext_length_le, rfl⟩

theorem Laws.ExtensionWords.swapw (dst : Loc16) :
    Laws.ExtensionWords.Statement (.swapw dst) :=
  fun _ => ⟨Nat.le_succ_of_le dst.ext_length_le, rfl⟩

theorem Laws.ExtensionWords.srlw (dst : Loc16) :
    Laws.ExtensionWords.Statement (.srlw dst) :=
  fun _ => ⟨Nat.le_succ_of_le dst.ext_length_le, rfl⟩

theorem Laws.ExtensionWords.bitImmPort (bit : BitVec 3) :
    Laws.ExtensionWords.Statement (.bitImmPort bit) :=
  fun _ => ⟨Nat.zero_le 2, rfl⟩

theorem Laws.ExtensionWords.resImmPort (bit : BitVec 3) :
    Laws.ExtensionWords.Statement (.resImmPort bit) :=
  fun _ => ⟨Nat.zero_le 2, rfl⟩

theorem Laws.ExtensionWords.setImmPort (bit : BitVec 3) :
    Laws.ExtensionWords.Statement (.setImmPort bit) :=
  fun _ => ⟨Nat.zero_le 2, rfl⟩

theorem Laws.ExtensionWords.bitImm (bit : BitVec 3) (src : Src8) :
    Laws.ExtensionWords.Statement (.bitImm bit src) :=
  fun _ => ⟨Nat.le_succ_of_le src.ext_length_le, rfl⟩

theorem Laws.ExtensionWords.resImm (bit : BitVec 3) (dst : Loc8) :
    Laws.ExtensionWords.Statement (.resImm bit dst) :=
  fun _ => ⟨Nat.le_succ_of_le dst.ext_length_le, rfl⟩

theorem Laws.ExtensionWords.setImm (bit : BitVec 3) (dst : Loc8) :
    Laws.ExtensionWords.Statement (.setImm bit dst) :=
  fun _ => ⟨Nat.le_succ_of_le dst.ext_length_le, rfl⟩

theorem Laws.ExtensionWords.bitAccPort (r : Acc8) :
    Laws.ExtensionWords.Statement (.bitAccPort r) :=
  fun _ => ⟨Nat.zero_le 2, rfl⟩

theorem Laws.ExtensionWords.resAccPort (r : Acc8) :
    Laws.ExtensionWords.Statement (.resAccPort r) :=
  fun _ => ⟨Nat.zero_le 2, rfl⟩

theorem Laws.ExtensionWords.setAccPort (r : Acc8) :
    Laws.ExtensionWords.Statement (.setAccPort r) :=
  fun _ => ⟨Nat.zero_le 2, rfl⟩

theorem Laws.ExtensionWords.bitAcc (r : Acc8) (src : Src8) :
    Laws.ExtensionWords.Statement (.bitAcc r src) :=
  fun _ => ⟨Nat.le_succ_of_le src.ext_length_le, rfl⟩

theorem Laws.ExtensionWords.resAcc (r : Acc8) (dst : Loc8) :
    Laws.ExtensionWords.Statement (.resAcc r dst) :=
  fun _ => ⟨Nat.le_succ_of_le dst.ext_length_le, rfl⟩

theorem Laws.ExtensionWords.setAcc (r : Acc8) (dst : Loc8) :
    Laws.ExtensionWords.Statement (.setAcc r dst) :=
  fun _ => ⟨Nat.le_succ_of_le dst.ext_length_le, rfl⟩

theorem Laws.ExtensionWords.ldCImm (imm : Byte) :
    Laws.ExtensionWords.Statement (.ldCImm imm) :=
  fun _ => ⟨Nat.zero_le 2, rfl⟩

theorem Laws.ExtensionWords.addCImm (imm : Byte) :
    Laws.ExtensionWords.Statement (.addCImm imm) :=
  fun _ => ⟨Nat.zero_le 2, rfl⟩

theorem Laws.ExtensionWords.popF :
    Laws.ExtensionWords.Statement (.popF) :=
  fun _ => ⟨Nat.zero_le 2, rfl⟩

theorem Laws.ExtensionWords.popGpr :
    Laws.ExtensionWords.Statement (.popGpr) :=
  fun _ => ⟨Nat.zero_le 2, rfl⟩

theorem Laws.ExtensionWords.popAll :
    Laws.ExtensionWords.Statement (.popAll) :=
  fun _ => ⟨Nat.zero_le 2, rfl⟩

theorem Laws.ExtensionWords.pop (dst : Loc16) :
    Laws.ExtensionWords.Statement (.pop dst) :=
  fun _ => ⟨Nat.le_succ_of_le dst.ext_length_le, rfl⟩

theorem Laws.ExtensionWords.pushKF :
    Laws.ExtensionWords.Statement (.pushKF) :=
  fun _ => ⟨Nat.zero_le 2, rfl⟩

theorem Laws.ExtensionWords.pushGpr :
    Laws.ExtensionWords.Statement (.pushGpr) :=
  fun _ => ⟨Nat.zero_le 2, rfl⟩

theorem Laws.ExtensionWords.pushAll :
    Laws.ExtensionWords.Statement (.pushAll) :=
  fun _ => ⟨Nat.zero_le 2, rfl⟩

theorem Laws.ExtensionWords.push (src : Src16) :
    Laws.ExtensionWords.Statement (.push src) :=
  fun _ => ⟨Nat.le_succ_of_le src.ext_length_le, rfl⟩

theorem Laws.ExtensionWords.stZm8 (dst : Zm) (r : Acc8) :
    Laws.ExtensionWords.Statement (.stZm8 dst r) :=
  fun _ => ⟨Nat.zero_le 2, rfl⟩

theorem Laws.ExtensionWords.ldZm8 (r : Acc8) (src : Zm) :
    Laws.ExtensionWords.Statement (.ldZm8 r src) :=
  fun _ => ⟨Nat.zero_le 2, rfl⟩

theorem Laws.ExtensionWords.stZm16 (dst : Zm) (r : Acc16) :
    Laws.ExtensionWords.Statement (.stZm16 dst r) :=
  fun _ => ⟨Nat.zero_le 2, rfl⟩

theorem Laws.ExtensionWords.ldZm16 (r : Acc16) (src : Zm) :
    Laws.ExtensionWords.Statement (.ldZm16 r src) :=
  fun _ => ⟨Nat.zero_le 2, rfl⟩

theorem Laws.ExtensionWords.ld (dst : Loc8) (src : Src8) :
    Laws.ExtensionWords.Statement (.ld dst src) :=
  fun _ => ⟨append_length_le src.ext_length_le dst.ext_length_le, rfl⟩

theorem Laws.ExtensionWords.ldw (dst : Loc16) (src : Src16) :
    Laws.ExtensionWords.Statement (.ldw dst src) :=
  fun _ => ⟨append_length_le src.ext_length_le dst.ext_length_le, rfl⟩

theorem Laws.ExtensionWords.ldRegImm (r : Reg8) (imm : Byte) :
    Laws.ExtensionWords.Statement (.ldRegImm r imm) :=
  fun _ => ⟨Nat.zero_le 2, rfl⟩

theorem Laws.ExtensionWords.addImm8 (r : Acc8) (imm : Byte) :
    Laws.ExtensionWords.Statement (.addImm8 r imm) :=
  fun _ => ⟨Nat.zero_le 2, rfl⟩

theorem Laws.ExtensionWords.addSrc8 (r : Acc8) (src : Src8) :
    Laws.ExtensionWords.Statement (.addSrc8 r src) :=
  fun _ => ⟨Nat.le_succ_of_le src.ext_length_le, rfl⟩

theorem Laws.ExtensionWords.addDst8 (dst : Loc8) (r : Acc8) :
    Laws.ExtensionWords.Statement (.addDst8 dst r) :=
  fun _ => ⟨Nat.le_succ_of_le dst.ext_length_le, rfl⟩

theorem Laws.ExtensionWords.addImm16 (r : Acc16) (imm : Byte) :
    Laws.ExtensionWords.Statement (.addImm16 r imm) :=
  fun _ => ⟨Nat.zero_le 2, rfl⟩

theorem Laws.ExtensionWords.addSrc16 (r : Acc16) (src : Src16) :
    Laws.ExtensionWords.Statement (.addSrc16 r src) :=
  fun _ => ⟨Nat.le_succ_of_le src.ext_length_le, rfl⟩

theorem Laws.ExtensionWords.addDst16 (dst : Loc16) (r : Acc16) :
    Laws.ExtensionWords.Statement (.addDst16 dst r) :=
  fun _ => ⟨Nat.le_succ_of_le dst.ext_length_le, rfl⟩

theorem Laws.ExtensionWords.adcImm8 (r : Acc8) (imm : Byte) :
    Laws.ExtensionWords.Statement (.adcImm8 r imm) :=
  fun _ => ⟨Nat.zero_le 2, rfl⟩

theorem Laws.ExtensionWords.adcSrc8 (r : Acc8) (src : Src8) :
    Laws.ExtensionWords.Statement (.adcSrc8 r src) :=
  fun _ => ⟨Nat.le_succ_of_le src.ext_length_le, rfl⟩

theorem Laws.ExtensionWords.adcDst8 (dst : Loc8) (r : Acc8) :
    Laws.ExtensionWords.Statement (.adcDst8 dst r) :=
  fun _ => ⟨Nat.le_succ_of_le dst.ext_length_le, rfl⟩

theorem Laws.ExtensionWords.adcImm16 (r : Acc16) (imm : Byte) :
    Laws.ExtensionWords.Statement (.adcImm16 r imm) :=
  fun _ => ⟨Nat.zero_le 2, rfl⟩

theorem Laws.ExtensionWords.adcSrc16 (r : Acc16) (src : Src16) :
    Laws.ExtensionWords.Statement (.adcSrc16 r src) :=
  fun _ => ⟨Nat.le_succ_of_le src.ext_length_le, rfl⟩

theorem Laws.ExtensionWords.adcDst16 (dst : Loc16) (r : Acc16) :
    Laws.ExtensionWords.Statement (.adcDst16 dst r) :=
  fun _ => ⟨Nat.le_succ_of_le dst.ext_length_le, rfl⟩

theorem Laws.ExtensionWords.subImm8 (r : Acc8) (imm : Byte) :
    Laws.ExtensionWords.Statement (.subImm8 r imm) :=
  fun _ => ⟨Nat.zero_le 2, rfl⟩

theorem Laws.ExtensionWords.subSrc8 (r : Acc8) (src : Src8) :
    Laws.ExtensionWords.Statement (.subSrc8 r src) :=
  fun _ => ⟨Nat.le_succ_of_le src.ext_length_le, rfl⟩

theorem Laws.ExtensionWords.subDst8 (dst : Loc8) (r : Acc8) :
    Laws.ExtensionWords.Statement (.subDst8 dst r) :=
  fun _ => ⟨Nat.le_succ_of_le dst.ext_length_le, rfl⟩

theorem Laws.ExtensionWords.subImm16 (r : Acc16) (imm : Byte) :
    Laws.ExtensionWords.Statement (.subImm16 r imm) :=
  fun _ => ⟨Nat.zero_le 2, rfl⟩

theorem Laws.ExtensionWords.subSrc16 (r : Acc16) (src : Src16) :
    Laws.ExtensionWords.Statement (.subSrc16 r src) :=
  fun _ => ⟨Nat.le_succ_of_le src.ext_length_le, rfl⟩

theorem Laws.ExtensionWords.subDst16 (dst : Loc16) (r : Acc16) :
    Laws.ExtensionWords.Statement (.subDst16 dst r) :=
  fun _ => ⟨Nat.le_succ_of_le dst.ext_length_le, rfl⟩

theorem Laws.ExtensionWords.sbcImm8 (r : Acc8) (imm : Byte) :
    Laws.ExtensionWords.Statement (.sbcImm8 r imm) :=
  fun _ => ⟨Nat.zero_le 2, rfl⟩

theorem Laws.ExtensionWords.sbcSrc8 (r : Acc8) (src : Src8) :
    Laws.ExtensionWords.Statement (.sbcSrc8 r src) :=
  fun _ => ⟨Nat.le_succ_of_le src.ext_length_le, rfl⟩

theorem Laws.ExtensionWords.sbcDst8 (dst : Loc8) (r : Acc8) :
    Laws.ExtensionWords.Statement (.sbcDst8 dst r) :=
  fun _ => ⟨Nat.le_succ_of_le dst.ext_length_le, rfl⟩

theorem Laws.ExtensionWords.sbcImm16 (r : Acc16) (imm : Byte) :
    Laws.ExtensionWords.Statement (.sbcImm16 r imm) :=
  fun _ => ⟨Nat.zero_le 2, rfl⟩

theorem Laws.ExtensionWords.sbcSrc16 (r : Acc16) (src : Src16) :
    Laws.ExtensionWords.Statement (.sbcSrc16 r src) :=
  fun _ => ⟨Nat.le_succ_of_le src.ext_length_le, rfl⟩

theorem Laws.ExtensionWords.sbcDst16 (dst : Loc16) (r : Acc16) :
    Laws.ExtensionWords.Statement (.sbcDst16 dst r) :=
  fun _ => ⟨Nat.le_succ_of_le dst.ext_length_le, rfl⟩

theorem Laws.ExtensionWords.andImm8 (r : Acc8) (imm : Byte) :
    Laws.ExtensionWords.Statement (.andImm8 r imm) :=
  fun _ => ⟨Nat.zero_le 2, rfl⟩

theorem Laws.ExtensionWords.andSrc8 (r : Acc8) (src : Src8) :
    Laws.ExtensionWords.Statement (.andSrc8 r src) :=
  fun _ => ⟨Nat.le_succ_of_le src.ext_length_le, rfl⟩

theorem Laws.ExtensionWords.andDst8 (dst : Loc8) (r : Acc8) :
    Laws.ExtensionWords.Statement (.andDst8 dst r) :=
  fun _ => ⟨Nat.le_succ_of_le dst.ext_length_le, rfl⟩

theorem Laws.ExtensionWords.andImm16 (r : Acc16) (imm : Byte) :
    Laws.ExtensionWords.Statement (.andImm16 r imm) :=
  fun _ => ⟨Nat.zero_le 2, rfl⟩

theorem Laws.ExtensionWords.andSrc16 (r : Acc16) (src : Src16) :
    Laws.ExtensionWords.Statement (.andSrc16 r src) :=
  fun _ => ⟨Nat.le_succ_of_le src.ext_length_le, rfl⟩

theorem Laws.ExtensionWords.andDst16 (dst : Loc16) (r : Acc16) :
    Laws.ExtensionWords.Statement (.andDst16 dst r) :=
  fun _ => ⟨Nat.le_succ_of_le dst.ext_length_le, rfl⟩

theorem Laws.ExtensionWords.xorImm8 (r : Acc8) (imm : Byte) :
    Laws.ExtensionWords.Statement (.xorImm8 r imm) :=
  fun _ => ⟨Nat.zero_le 2, rfl⟩

theorem Laws.ExtensionWords.xorSrc8 (r : Acc8) (src : Src8) :
    Laws.ExtensionWords.Statement (.xorSrc8 r src) :=
  fun _ => ⟨Nat.le_succ_of_le src.ext_length_le, rfl⟩

theorem Laws.ExtensionWords.xorDst8 (dst : Loc8) (r : Acc8) :
    Laws.ExtensionWords.Statement (.xorDst8 dst r) :=
  fun _ => ⟨Nat.le_succ_of_le dst.ext_length_le, rfl⟩

theorem Laws.ExtensionWords.xorImm16 (r : Acc16) (imm : Byte) :
    Laws.ExtensionWords.Statement (.xorImm16 r imm) :=
  fun _ => ⟨Nat.zero_le 2, rfl⟩

theorem Laws.ExtensionWords.xorSrc16 (r : Acc16) (src : Src16) :
    Laws.ExtensionWords.Statement (.xorSrc16 r src) :=
  fun _ => ⟨Nat.le_succ_of_le src.ext_length_le, rfl⟩

theorem Laws.ExtensionWords.xorDst16 (dst : Loc16) (r : Acc16) :
    Laws.ExtensionWords.Statement (.xorDst16 dst r) :=
  fun _ => ⟨Nat.le_succ_of_le dst.ext_length_le, rfl⟩

theorem Laws.ExtensionWords.orImm8 (r : Acc8) (imm : Byte) :
    Laws.ExtensionWords.Statement (.orImm8 r imm) :=
  fun _ => ⟨Nat.zero_le 2, rfl⟩

theorem Laws.ExtensionWords.orSrc8 (r : Acc8) (src : Src8) :
    Laws.ExtensionWords.Statement (.orSrc8 r src) :=
  fun _ => ⟨Nat.le_succ_of_le src.ext_length_le, rfl⟩

theorem Laws.ExtensionWords.orDst8 (dst : Loc8) (r : Acc8) :
    Laws.ExtensionWords.Statement (.orDst8 dst r) :=
  fun _ => ⟨Nat.le_succ_of_le dst.ext_length_le, rfl⟩

theorem Laws.ExtensionWords.orImm16 (r : Acc16) (imm : Byte) :
    Laws.ExtensionWords.Statement (.orImm16 r imm) :=
  fun _ => ⟨Nat.zero_le 2, rfl⟩

theorem Laws.ExtensionWords.orSrc16 (r : Acc16) (src : Src16) :
    Laws.ExtensionWords.Statement (.orSrc16 r src) :=
  fun _ => ⟨Nat.le_succ_of_le src.ext_length_le, rfl⟩

theorem Laws.ExtensionWords.orDst16 (dst : Loc16) (r : Acc16) :
    Laws.ExtensionWords.Statement (.orDst16 dst r) :=
  fun _ => ⟨Nat.le_succ_of_le dst.ext_length_le, rfl⟩

theorem Laws.ExtensionWords.cpImm8 (r : Acc8) (imm : Byte) :
    Laws.ExtensionWords.Statement (.cpImm8 r imm) :=
  fun _ => ⟨Nat.zero_le 2, rfl⟩

theorem Laws.ExtensionWords.cpSrc8 (r : Acc8) (src : Src8) :
    Laws.ExtensionWords.Statement (.cpSrc8 r src) :=
  fun _ => ⟨Nat.le_succ_of_le src.ext_length_le, rfl⟩

theorem Laws.ExtensionWords.cpDst8 (dst : Loc8) (r : Acc8) :
    Laws.ExtensionWords.Statement (.cpDst8 dst r) :=
  fun _ => ⟨Nat.le_succ_of_le dst.ext_length_le, rfl⟩

theorem Laws.ExtensionWords.cpImm16 (r : Acc16) (imm : Byte) :
    Laws.ExtensionWords.Statement (.cpImm16 r imm) :=
  fun _ => ⟨Nat.zero_le 2, rfl⟩

theorem Laws.ExtensionWords.cpSrc16 (r : Acc16) (src : Src16) :
    Laws.ExtensionWords.Statement (.cpSrc16 r src) :=
  fun _ => ⟨Nat.le_succ_of_le src.ext_length_le, rfl⟩

theorem Laws.ExtensionWords.cpDst16 (dst : Loc16) (r : Acc16) :
    Laws.ExtensionWords.Statement (.cpDst16 dst r) :=
  fun _ => ⟨Nat.le_succ_of_le dst.ext_length_le, rfl⟩

theorem Laws.ExtensionWords.callr (pcr10 : BitVec 10) :
    Laws.ExtensionWords.Statement (.callr pcr10) :=
  fun _ => ⟨Nat.zero_le 2, rfl⟩

theorem Laws.ExtensionWords.call (addr : Src16) :
    Laws.ExtensionWords.Statement (.call addr) :=
  fun _ => ⟨Nat.le_succ_of_le addr.ext_length_le, rfl⟩

theorem Laws.ExtensionWords.calld (addr : Src16) :
    Laws.ExtensionWords.Statement (.calld addr) :=
  fun _ => ⟨Nat.le_succ_of_le addr.ext_length_le, rfl⟩

theorem Laws.ExtensionWords.callfMem (src : PlainMem) :
    Laws.ExtensionWords.Statement (.callfMem src) :=
  fun _ => ⟨Nat.le_succ_of_le src.ext_length_le, rfl⟩

theorem Laws.ExtensionWords.callrl (pcr15 : BitVec 15) :
    Laws.ExtensionWords.Statement (.callrl pcr15) :=
  fun _ => ⟨Nat.le_succ 1, rfl⟩

theorem Laws.ExtensionWords.callfAbs (bank : Byte) (a16 : Word) :
    Laws.ExtensionWords.Statement (.callfAbs bank a16) :=
  fun _ => ⟨Nat.le_succ 1, rfl⟩

theorem Laws.ExtensionWords.rst (num : Byte) :
    Laws.ExtensionWords.Statement (.rst num) :=
  fun _ => ⟨Nat.zero_le 2, rfl⟩

theorem Laws.ExtensionWords.reti (int : BitVec 3) :
    Laws.ExtensionWords.Statement (.reti int) :=
  fun _ => ⟨Nat.zero_le 2, rfl⟩

theorem Laws.ExtensionWords.jr (cond : Cond) (pcr10 : BitVec 10) :
    Laws.ExtensionWords.Statement (.jr cond pcr10) :=
  fun _ => ⟨Nat.zero_le 2, rfl⟩

theorem Laws.ExtensionWords.jp (cond : Cond) (addr : Src16) :
    Laws.ExtensionWords.Statement (.jp cond addr) :=
  fun _ => ⟨Nat.le_succ_of_le addr.ext_length_le, rfl⟩

theorem Laws.ExtensionWords.jpd (cond : Cond) (addr : Src16) :
    Laws.ExtensionWords.Statement (.jpd cond addr) :=
  fun _ => ⟨Nat.le_succ_of_le addr.ext_length_le, rfl⟩

theorem Laws.ExtensionWords.jpfMem (cond : Cond) (src : PlainMem) :
    Laws.ExtensionWords.Statement (.jpfMem cond src) :=
  fun _ => ⟨Nat.le_succ_of_le src.ext_length_le, rfl⟩

theorem Laws.ExtensionWords.jrl (cond : Cond) (pcr15 : BitVec 15) :
    Laws.ExtensionWords.Statement (.jrl cond pcr15) :=
  fun _ => ⟨Nat.le_succ 1, rfl⟩

theorem Laws.ExtensionWords.jpfAbs (cond : Cond) (bank : Byte) (a16 : Word) :
    Laws.ExtensionWords.Statement (.jpfAbs cond bank a16) :=
  fun _ => ⟨Nat.le_succ 1, rfl⟩

theorem Laws.ExtensionWords.ret (cond : Cond) :
    Laws.ExtensionWords.Statement (.ret cond) :=
  fun _ => ⟨Nat.zero_le 2, rfl⟩

theorem Laws.ExtensionWords.retf (cond : Cond) :
    Laws.ExtensionWords.Statement (.retf cond) :=
  fun _ => ⟨Nat.zero_le 2, rfl⟩

end Sys2Proof
end

