-- ==== Sys2Proof/Laws/Repi.lean ====
section
/-! SUPPORT. REPI's target runs as the instruction does alone: `execTarget` is `exec` on what REPI may repeat, and stops
on what it may not (40_misc_system.md R152). -/

namespace Sys2Proof.Machine

/-- A repeatable target has the meaning it has alone. -/
theorem execTarget_eq_exec (i : Instr) (s : State) (h : repeatable i = true) : execTarget i s = exec i s := by
  cases i <;> first | rfl | exact absurd h (by decide) | cases h

/-- A target REPI may not repeat stops the machine. -/
theorem execTarget_forbidden (i : Instr) (s : State) (h : repeatable i = false) :
    execTarget i s = .fault .repiTarget := by
  cases i <;> first | rfl | cases h

end Sys2Proof.Machine
end

