-- ==== Sys2Proof/Laws/Reset.lean ====
section
/-! SUPPORT. The external reset: what each field holds after it, and what is left of the step it abandons
(60_exceptions.md R332; log 6). -/

namespace Sys2Proof.Machine

/-! ## The fields after reset entry -/

@[simp] theorem State.resetEntry_k (s : State) : s.resetEntry.k = 0xFF := rfl
@[simp] theorem State.resetEntry_pc (s : State) : s.resetEntry.pc = 0 :=
  (by decide : (0 : BitVec 15) ++ 0#1 = (0 : Word))
@[simp] theorem State.resetEntry_run (s : State) : s.resetEntry.run = .running := rfl
@[simp] theorem State.resetEntry_f_i (s : State) : s.resetEntry.f.i = s.params.resetI := rfl
@[simp] theorem State.resetEntry_e (s : State) : s.resetEntry.e = s.params.resetE := rfl
@[simp] theorem State.resetEntry_inputs (s : State) : s.resetEntry.inputs = s.inputs := rfl
@[simp] theorem State.resetEntry_portAnswers (s : State) : s.resetEntry.portAnswers = s.portAnswers := rfl
@[simp] theorem State.resetEntry_ioLog (s : State) : s.resetEntry.ioLog = s.ioLog := rfl
@[simp] theorem State.resetEntry_handlers (s : State) : s.resetEntry.handlers = s.handlers := rfl
@[simp] theorem State.resetEntry_illegalMode (s : State) : s.resetEntry.illegalMode = s.illegalMode := rfl
@[simp] theorem State.resetEntry_params (s : State) : s.resetEntry.params = s.params := rfl

/-! ## The fields of an abandoned step -/

@[simp] theorem State.abandoned_inputs (s u : State) (n : Nat) : (s.abandoned u n).inputs = s.inputs := rfl
@[simp] theorem State.abandoned_handlers (s u : State) (n : Nat) : (s.abandoned u n).handlers = s.handlers := rfl
@[simp] theorem State.abandoned_illegalMode (s u : State) (n : Nat) :
    (s.abandoned u n).illegalMode = s.illegalMode := rfl
@[simp] theorem State.abandoned_params (s u : State) (n : Nat) : (s.abandoned u n).params = s.params := rfl

/-! ## What a step in progress reaches -/

/-- Repetitions that end reach the state they end in. -/
theorem repeatReached_of_next {t : Instr} {own : List Addr} {n : Nat} {s u : State}
    (h : repeatTarget t own n s = .next u) : repeatReached t own n s = u := by
  induction n generalizing s with
  | zero => exact Host.Outcome.next.inj h
  | succ n ih =>
    simp only [repeatTarget, repeatReached] at h ⊢
    split at h
    · next v hv =>
      split at h
      · cases h
      · next hs => simp only [hs]; exact ih h
    · cases h
    · cases h

/-- REPI imm over a legal encoding, when it ends, reaches the state it ends in. -/
theorem repiImmReached_of_next {field : BitVec 4} {s u : State} {t : Instr} (ht : s.fetchAt s.pc = .ok t)
    (h : execRepiImm field s = .next u) : s.repiImmReached field = u := by
  simp only [execRepiImm, State.withTarget, State.repiImmReached, ht] at h ⊢
  split at h
  · next hr => rw [if_pos hr]; exact repeatReached_of_next h
  · cases h

/-- An instruction that ends, REPI imm apart, reaches the state it ends in. -/
theorem reached_of_next {i : Instr} {s u : State} (hi : ∀ field, i ≠ .repiImm field) (h : exec i s = .next u) :
    reached i s = u := by
  unfold reached
  split
  · next field => exact absurd rfl (hi field)
  · rw [h]

/-- An instruction that stops, REPI imm apart, reaches nothing. -/
theorem reached_of_stop {i : Instr} {s : State} (hi : ∀ field, i ≠ .repiImm field)
    (h : ∀ u, exec i s ≠ .next u) : reached i s = s := by
  unfold reached
  split
  · next field => exact absurd rfl (hi field)
  · split
    · next u hu => exact absurd hu (h u)
    · rfl
    · rfl

/-! ## What is left of it -/

/-- Of the accesses that lead from `s` to `u`, the first `n` are the last `n` of the list. -/
theorem State.firstAccesses_of_log {s u : State} {made : List IoEvent} (n : Nat) (h : u.ioLog = made ++ s.ioLog) :
    s.firstAccesses u n = made.drop (made.length - n) := by
  simp [State.firstAccesses, h]

/-- Abandoning a step that has made some port accesses leaves what `AbandonedAfter` says. -/
theorem abandonedAfter_resetEntry {s u : State} {made : List IoEvent} (n : Nat) (h : u.ioLog = made ++ s.ioLog) :
    AbandonedAfter n s u (s.abandoned u n).resetEntry := by
  refine ⟨s.firstAccesses u n, made.take (made.length - n), ?_, rfl, ?_, ?_, rfl⟩
  · rw [State.firstAccesses_of_log n h, List.take_append_drop, h]
  · rw [State.firstAccesses_of_log n h, List.length_drop]; omega
  · rw [State.firstAccesses_of_log n h, List.length_drop, List.take_eq_nil_iff, List.eq_nil_iff_length_eq_zero]
    omega

/-- A step that has made no port access leaves none. -/
theorem State.abandoned_self (s : State) (n : Nat) : s.abandoned s n = s := by
  simp [State.abandoned, State.firstAccesses]

end Sys2Proof.Machine
end

