-- ==== Sys2Proof/Tests/Slice0.lean ====
section
/-! SUPPORT. Small tests: ill-formed terms, words written out from the encodings, single steps with the results of
spec/95_test_vectors.md, and a witness for the hypotheses of every statement of Certificates/Slice0/Obligations.lean. -/

namespace Sys2Proof.Tests

open Sys2Proof Sys2Proof.Machine

/-! ## WellFormed: each ill-formed term is refused -/

theorem test_wf_refuses_empty_exs : (Instr.exs RegList.empty).wf = false := by decide
theorem test_wf_refuses_push_sp : (Instr.push (.loc (.reg .sp))).wf = false := by decide
theorem test_wf_refuses_pop_sp : (Instr.pop (.reg .sp)).wf = false := by decide
theorem test_wf_refuses_zh_in_word_store : (Instr.stZm16 (.high 3) .ab).wf = false := by decide
theorem test_wf_refuses_zh_in_word_load : (Instr.ldZm16 .hl (.high 3)).wf = false := by decide
theorem test_wf_accepts : (Instr.ld (.mem (.plain (.direct0 0x1000))) (.imm 0x7F)).wf = true := by decide

/-! ## Words written out from the encodings -/

/-- The decoder, with the default parameters, reads this instruction from these words. -/
def reads (w e1 e2 : Word) (i : Instr) : Bool := decide (decode .default w e1 e2 = .ok i)

/-- The decoder, with the default parameters, refuses these words. -/
def refuses (w e1 e2 : Word) : Bool :=
  match decode .default w e1 e2 with
  | .ok _ => false
  | .error _ => true

/-- Words of the system group, written out from the encodings of 30_encoding.md (R140 to R156). -/
theorem test_decode_system :
    [reads 0b0000000000000000 0 0 (.nop),
     reads 0b0000010011001001 0 0 (.exs ⟨true, false, true, true, false, false, true, false, false, true⟩),
     reads 0b0001000000000000 0 0 (.halt),
     reads 0b0001000000000100 0 0 (.stop),
     reads 0b0001000000001000 0 0 (.ccf),
     reads 0b0001000000001100 0 0 (.sds),
     reads 0b0001000000000001 0 0 (.daa),
     reads 0b0001000000000101 0 0 (.sao),
     reads 0b0001000000001001 0 0 (.das),
     reads 0b0001000000001101 0 0 (.sau),
     reads 0b0001000000001011 0 0 (.repiReg .h),
     reads 0b0001000000011001 0 0 (.repiImm 9),
     reads 0b0001010000111011 0 0 (.resf 0x3B),
     reads 0b0001010101000000 0 0 (.di 0x40),
     reads 0b0001011001000101 0 0 (.setf 0x45),
     reads 0b0001011101001010 0 0 (.ei 0x4A)].all id = true := by
  decide

/-- Words of the control group, written out from the encodings of 30_encoding.md (R301 to R316). -/
theorem test_decode_control :
    [reads 0b0000001110100000 0 0 (.djnz8 .b 0xA0),
     reads 0b0000011010100101 0 0 (.djnz16 .ab 0xA5),
     reads 0b1111101010100101 0 0 (.callr 0x2A5),
     reads 0b1111110000000000 0x1090 0 (.call (.imm 0x1090)),
     reads 0b1111110010000111 0 0 (.calld (.pseudo .asx)),
     reads 0b1111110011000010 0 0 (.callfMem (.ab .bank0)),
     reads 0b1111110100000000 0x2468 0 (.callrl 0x1234),
     reads 0b1111111001110101 0x9ABC 0 (.callfAbs 0x75 0x9ABC),
     reads 0b1111111101111010 0 0 (.rst 0x7A),
     reads 0b1110111110110000 0 0 (.reti 5),
     reads 0b1011101010100101 0 0 (.jr .po 0x2A5),
     reads 0b0011110000001011 0 0 (.jp .gt (.loc (.reg .hl))),
     reads 0b1110110010010100 0x1099 0 (.jpd .always (.loc (.mem (.plain (.ixDisp .ds 0x1099))))),
     reads 0b0110110011000110 0 0 (.jpfMem .z (.ab .ds)),
     reads 0b1001110100000000 0x2468 0 (.jrl .p 0x1234),
     reads 0b0001111010011101 0x9ABC 0 (.jpfAbs .ge 0x9D 0x9ABC),
     reads 0b1101111100000000 0 0 (.ret .nc),
     reads 0b0100111110000000 0 0 (.retf .ule)].all id = true := by
  decide

/-- Words of the addresses group, written out from the encodings of 30_encoding.md (R170 to R172). -/
theorem test_decode_addresses :
    [reads 0b0001000000101011 0xFFF0 0 (.ldpca (.reg .hl) 0xFFF0),
     reads 0b0001000001011000 0xFFF0 0x1010 (.ldixa (.mem (.plain (.spDisp 0x1010))) 0xFFF0),
     reads 0b0001000001100101 0xFFF0 0 (.ldspa (.mem (.auto .ds .hl .inc)) 0xFFF0)].all id = true := by
  decide

/-- Words of the loads group, written out from the encodings of 30_encoding.md (R247 to R242). -/
theorem test_decode_loads :
    [reads 0b0001000010000011 0 0 (.ldFromPortInc (.reg .a)),
     reads 0b0001000011001000 0x1013 0 (.ldFromF (.mem (.plain (.direct0 0x1013)))),
     reads 0b0001000100001101 0 0 (.ldFromPort (.mem (.auto .ds .hl .dec))),
     reads 0b0001000101000111 0 0 (.ldFromC (.reg .b)),
     reads 0b0001000110010110 0 0 (.ldFromPortDec (.mem (.plain (.ix .ds)))),
     reads 0b0001000111001011 0 0 (.ldFromE (.reg .h)),
     reads 0b0001001010000111 0 0 (.ldPortInc (.loc (.reg .b))),
     reads 0b0001001011000110 0 0 (.ldF (.loc (.mem (.plain (.ab .ds))))),
     reads 0b0001001100011111 0 0 (.ldPort (.loc (.reg .s))),
     reads 0b0001001101001100 0x101F 0 (.ldC (.loc (.mem (.plain (.directDs 0x101F))))),
     reads 0b0001001110000011 0 0 (.ldPortDec (.loc (.reg .a))),
     reads 0b0001001111000000 0x21 0 (.ldE (.imm 0x21)),
     reads 0b0100000000010111 0 0 (.ldCImm 0x17),
     reads 0b0100000100011100 0 0 (.addCImm 0x1C),
     reads 0b0101000001101011 0 0 (.stZm8 (.ptr .ds 5) .a),
     reads 0b0101001100101110 0 0 (.ldZm8 .b (.auto .bank0 7 .dec)),
     reads 0b0101010001000110 0 0 (.stZm16 (.plusIx .bank0 3) .ab),
     reads 0b0101011110110001 0 0 (.ldZm16 .hl (.spDisp 17)),
     reads 0b0110000100000000 0x007F 0x1000 (.ld (.mem (.plain (.direct0 0x1000))) (.imm 0x7F)),
     reads 0b0110011010000100 0x2000 0x1000 (.ldw (.mem (.plain (.ixDisp .ds 0x1000))) (.loc (.mem (.plain (.direct1 0x2000))))),
     reads 0b0111011001100111 0 0 (.ldRegImm .x 0x67)].all id = true := by
  decide

/-- Words of the muldiv group, written out from the encodings of 30_encoding.md (R180 to R183). -/
theorem test_decode_muldiv :
    [reads 0b0001001000000000 0x18 0 (.mulu (.imm 0x18)),
     reads 0b0001001000100000 0x1019 0 (.mulsw (.imm 0x1019)),
     reads 0b0001001001010101 0 0 (.divu (.loc (.mem (.auto .ds .ix .inc)))),
     reads 0b0001001001100111 0 0 (.divsw (.pseudo .asx))].all id = true := by
  decide

/-- Words of the unary group, written out from the encodings of 30_encoding.md (R191 to R202). -/
theorem test_decode_unary :
    [reads 0b0010000010100001 0 0 (.inc 5 (.mem (.auto .bank0 .hl .inc))),
     reads 0b0010000110101111 0 0 (.dec 5 (.reg .l)),
     reads 0b0010001000010000 0x1028 0 (.neg (.mem (.plain (.ixDisp .bank0 0x1028)))),
     reads 0b0010001010011111 0 0 (.cpl (.reg .s)),
     reads 0b0010001100011101 0 0 (.ngc (.mem (.auto .ds .ix .dec))),
     reads 0b0010001110000100 0x102B 0 (.clr (.mem (.plain (.direct1 0x102B)))),
     reads 0b0010010010101011 0 0 (.incw 5 (.reg .hl)),
     reads 0b0010010110101100 0x102D 0 (.decw 5 (.mem (.plain (.directDs 0x102D)))),
     reads 0b0010011000000011 0 0 (.negw (.reg .ab)),
     reads 0b0010011010000101 0 0 (.cplw (.mem (.auto .ds .hl .inc))),
     reads 0b0010011100010011 0 0 (.ngcw (.reg .ix)),
     reads 0b0010011110010100 0x1031 0 (.clrw (.mem (.plain (.ixDisp .ds 0x1031))))].all id = true := by
  decide

/-- Words of the shift group, written out from the encodings of 30_encoding.md (R211 to R230). -/
theorem test_decode_shift :
    [reads 0b0011000000010011 0 0 (.rlc (.reg .i)),
     reads 0b0011000000100010 0 0 (.rrc (.mem (.plain (.ab .bank0)))),
     reads 0b0011000001010111 0 0 (.rl (.reg .x)),
     reads 0b0011000001111000 0x1035 0 (.rr (.mem (.plain (.spDisp 0x1035)))),
     reads 0b0011000010011011 0 0 (.sla (.reg .d)),
     reads 0b0011000010111010 0 0 (.sra (.mem (.plain .dsPair))),
     reads 0b0011000011000011 0 0 (.swap (.reg .a)),
     reads 0b0011000011101000 0x1039 0 (.srl (.mem (.plain (.direct0 0x1039)))),
     reads 0b0011010000011011 0 0 (.rlcw (.reg .ds)),
     reads 0b0011010000101001 0 0 (.rrcw (.mem (.auto .bank0 .hl .dec))),
     reads 0b0011010001011111 0 0 (.rlw (.reg .sp)),
     reads 0b0011010001101010 0 0 (.rrw (.mem (.plain (.hl .bank0)))),
     reads 0b0011010010001000 0x103E 0 (.slaw (.mem (.plain (.direct0 0x103E)))),
     reads 0b0011010010101110 0 0 (.sraw (.mem (.plain (.hl .ds)))),
     reads 0b0011010011010001 0 0 (.swapw (.mem (.auto .bank0 .ix .inc))),
     reads 0b0011010011111001 0 0 (.srlw (.mem (.auto .bank0 .ix .dec)))].all id = true := by
  decide

/-- Words of the bits group, written out from the encodings of 30_encoding.md (R220 to R222). -/
theorem test_decode_bits :
    [reads 0b0011000110111110 0 0 (.bitImmPort 5),
     reads 0b0011001010111110 0 0 (.resImmPort 5),
     reads 0b0011001110111110 0 0 (.setImmPort 5),
     reads 0b0011000110111010 0 0 (.bitImm 5 (.loc (.mem (.plain .dsPair)))),
     reads 0b0011001010101101 0 0 (.resImm 5 (.mem (.auto .ds .hl .dec))),
     reads 0b0011001110100111 0 0 (.setImm 5 (.reg .b)),
     reads 0b0011010100011110 0 0 (.bitAccPort .a),
     reads 0b0011011010011110 0 0 (.resAccPort .b),
     reads 0b0011011100011110 0 0 (.setAccPort .a),
     reads 0b0011010110010000 0x104B 0 (.bitAcc .b (.loc (.mem (.plain (.ixDisp .bank0 0x104B))))),
     reads 0b0011011000010110 0 0 (.resAcc .a (.mem (.plain (.ix .ds)))),
     reads 0b0011011110001011 0 0 (.setAcc .b (.reg .h))].all id = true := by
  decide

/-- Words of the stack group, written out from the encodings of 30_encoding.md (R265 to R260). -/
theorem test_decode_stack :
    [reads 0b0100001100011111 0 0 (.popF),
     reads 0b0100001100111111 0 0 (.popGpr),
     reads 0b0100001101111111 0 0 (.popAll),
     reads 0b0100001100010010 0 0 (.pop (.mem (.plain (.ix .bank0)))),
     reads 0b0100001110011111 0 0 (.pushKF),
     reads 0b0100001110111111 0 0 (.pushGpr),
     reads 0b0100001111111111 0 0 (.pushAll),
     reads 0b0100001110001011 0 0 (.push (.loc (.reg .hl)))].all id = true := by
  decide

/-- Words of the add group, written out from the encodings of 30_encoding.md (R281 to R281). -/
theorem test_decode_add :
    [reads 0b1000000101101100 0 0 (.addImm8 .b 0x6C),
     reads 0b1000001000000000 0x60 0 (.addSrc8 .a (.imm 0x60)),
     reads 0b1000001100100001 0 0 (.addDst8 (.mem (.auto .bank0 .hl .inc)) .b),
     reads 0b1000010001111011 0 0 (.addImm16 .ab 0x7B),
     reads 0b1000011100010100 0x1063 0 (.addSrc16 .hl (.loc (.mem (.plain (.ixDisp .ds 0x1063))))),
     reads 0b1000011000111000 0x1064 0 (.addDst16 (.mem (.plain (.spDisp 0x1064))) .ab)].all id = true := by
  decide

/-- Words of the adc group, written out from the encodings of 30_encoding.md (R282 to R282). -/
theorem test_decode_adc :
    [reads 0b1001000110001010 0 0 (.adcImm8 .b 0x8A),
     reads 0b1001001000010101 0 0 (.adcSrc8 .a (.loc (.mem (.auto .ds .ix .inc)))),
     reads 0b1001001100101111 0 0 (.adcDst8 (.reg .l) .b),
     reads 0b1001010010011001 0 0 (.adcImm16 .ab 0x99),
     reads 0b1001011100001111 0 0 (.adcSrc16 .hl (.pseudo .bsx)),
     reads 0b1001011000101011 0 0 (.adcDst16 (.reg .hl) .ab)].all id = true := by
  decide

/-- Words of the sub group, written out from the encodings of 30_encoding.md (R283 to R283). -/
theorem test_decode_sub :
    [reads 0b1010000110101000 0 0 (.subImm8 .b 0xA8),
     reads 0b1010001000000111 0 0 (.subSrc8 .a (.loc (.reg .b))),
     reads 0b1010001100110000 0x106D 0 (.subDst8 (.mem (.plain (.ixDisp .bank0 0x106D))) .b),
     reads 0b1010010010110111 0 0 (.subImm16 .ab 0xB7),
     reads 0b1010011100011111 0 0 (.subSrc16 .hl (.loc (.reg .sp))),
     reads 0b1010011000101100 0x1070 0 (.subDst16 (.mem (.plain (.directDs 0x1070))) .ab)].all id = true := by
  decide

/-- Words of the sbc group, written out from the encodings of 30_encoding.md (R284 to R284). -/
theorem test_decode_sbc :
    [reads 0b1011000111000110 0 0 (.sbcImm8 .b 0xC6),
     reads 0b1011001000000110 0 0 (.sbcSrc8 .a (.loc (.mem (.plain (.ab .ds))))),
     reads 0b1011001100111111 0 0 (.sbcDst8 (.reg .s) .b),
     reads 0b1011010011010101 0 0 (.sbcImm16 .ab 0xD5),
     reads 0b1011011100001101 0 0 (.sbcSrc16 .hl (.loc (.mem (.auto .ds .hl .dec)))),
     reads 0b1011011000100011 0 0 (.sbcDst16 (.reg .ab) .ab)].all id = true := by
  decide

/-- Words of the and group, written out from the encodings of 30_encoding.md (R285 to R285). -/
theorem test_decode_and :
    [reads 0b1100000111100100 0 0 (.andImm8 .b 0xE4),
     reads 0b1100001000011111 0 0 (.andSrc8 .a (.loc (.reg .s))),
     reads 0b1100001100111101 0 0 (.andDst8 (.mem (.auto .ds .ix .dec)) .b),
     reads 0b1100010011110011 0 0 (.andImm16 .ab 0xF3),
     reads 0b1100011100010111 0 0 (.andSrc16 .hl (.pseudo .azx)),
     reads 0b1100011000100101 0 0 (.andDst16 (.mem (.auto .ds .hl .inc)) .ab)].all id = true := by
  decide

/-- Words of the xor group, written out from the encodings of 30_encoding.md (R286 to R286). -/
theorem test_decode_xor :
    [reads 0b1101000100000010 0 0 (.xorImm8 .b 0x02),
     reads 0b1101001000001100 0x107E 0 (.xorSrc8 .a (.loc (.mem (.plain (.directDs 0x107E))))),
     reads 0b1101001100100100 0x107F 0 (.xorDst8 (.mem (.plain (.direct1 0x107F))) .b),
     reads 0b1101010000010001 0 0 (.xorImm16 .ab 0x11),
     reads 0b1101011100011011 0 0 (.xorSrc16 .hl (.loc (.reg .ds))),
     reads 0b1101011000110011 0 0 (.xorDst16 (.reg .ix) .ab)].all id = true := by
  decide

/-- Words of the or group, written out from the encodings of 30_encoding.md (R287 to R287). -/
theorem test_decode_or :
    [reads 0b1110000100100000 0 0 (.orImm8 .b 0x20),
     reads 0b1110001000000011 0 0 (.orSrc8 .a (.loc (.reg .a))),
     reads 0b1110001100110011 0 0 (.orDst8 (.reg .i) .b),
     reads 0b1110010000101111 0 0 (.orImm16 .ab 0x2F),
     reads 0b1110011100000010 0 0 (.orSrc16 .hl (.loc (.mem (.plain (.ab .bank0))))),
     reads 0b1110011000110100 0x1088 0 (.orDst16 (.mem (.plain (.ixDisp .ds 0x1088))) .ab)].all id = true := by
  decide

/-- Words of the cp group, written out from the encodings of 30_encoding.md (R288 to R288). -/
theorem test_decode_cp :
    [reads 0b1111000100111110 0 0 (.cpImm8 .b 0x3E),
     reads 0b1111001000000000 0x8A 0 (.cpSrc8 .a (.imm 0x8A)),
     reads 0b1111001100100010 0 0 (.cpDst8 (.mem (.plain (.ab .bank0))) .b),
     reads 0b1111010001001101 0 0 (.cpImm16 .ab 0x4D),
     reads 0b1111011100000100 0x108D 0 (.cpSrc16 .hl (.loc (.mem (.plain (.direct1 0x108D))))),
     reads 0b1111011000111011 0 0 (.cpDst16 (.reg .ds) .ab)].all id = true := by
  decide

/-- The memory modes and registers of the RM table that the words above do not show (R103), at both widths. -/
theorem test_decode_rm :
    [reads 0b0110001110111001 0 0 (.ld (.mem (.auto .ds .ix .dec)) (.loc (.mem (.auto .bank0 .ix .dec)))),
     reads 0b0110000101010001 0 0 (.ld (.mem (.plain (.hl .bank0))) (.loc (.mem (.auto .bank0 .ix .inc)))),
     reads 0b0110010010111010 0 0 (.ldw (.mem (.auto .ds .hl .inc)) (.loc (.mem (.plain .dsPair)))),
     reads 0b0110011111101111 0 0 (.ldw (.reg .sp) (.pseudo .bsx))].all id = true := by
  decide

/-- The ZM forms that the words above do not show (R107). -/
theorem test_decode_zm :
    [reads 0b0101000010000011 0 0 (.stZm8 (.ixDisp .bank0 3) .a), reads 0b0101000011011111 0 0 (.stZm8 (.ixDisp .ds 31) .a),
     reads 0b0101000011100010 0 0 (.stZm8 (.low 1) .a), reads 0b0101000011111111 0 0 (.stZm8 (.high 15) .a),
     reads 0b0101010011111110 0 0 (.stZm16 (.low 15) .ab), reads 0b0101000000000001 0 0 (.stZm8 (.auto .ds 0 .inc) .a),
     reads 0b0101000001011111 0 0 (.stZm8 (.plusIx .ds 15) .a), reads 0b0101000001100000 0 0 (.stZm8 (.ptr .bank0 0) .a)].all id
      = true := by
  decide

/-- Words the spec calls illegal: a pseudo-register or an immediate as destination, codes 28 and 30, a non-zero pad, an
odd pcr15, ZnH in a word LD, RETI with a condition, an auto-index as a 24-bit pointer (R105 to R107, R121). -/
theorem test_decode_refuses :
    [refuses 0x1067 0 0, refuses 0x3000 1 0, refuses 0x6C1C 0 0, refuses 0x601E 0 0, refuses 0x3100 0x0101 0,
     refuses 0xED00 0x0101 0, refuses 0xED01 0x0100 0, refuses 0x54E1 0 0, refuses 0x6F50 0 0, refuses 0xECC1 0 0,
     refuses 0x4307 0 0, refuses 0xEF01 0 0].all id = true := by
  decide

/-! ## Single steps, results from spec/95_test_vectors.md -/

/-- The start state of the vectors: reset, with SP = $FF00, K = $00, PC = $1000. -/
def start : State := { State.reset with spHi := 0x7F80, pcHi := 0x0800, k := 0 }

/-- These words at K:PC. -/
def placed (words : List Word) (s : State) : State := State.placeBytes s.pc 0 (bytesOfWords words) s

/-- One step over these words gives a next state of which `p` holds. -/
def gives (words : List Word) (s : State) (p : State → Bool) : Bool :=
  match step (placed words s) with
  | .next t => p t
  | .fault _ => false
  | .refused _ => false

/-- One step over these words stops so. -/
def stops (words : List Word) (s : State) (e : Fault) : Bool :=
  match step (placed words s) with
  | .next _ => false
  | .fault x => decide (x = e)
  | .refused _ => false

/-- Vector M4. -/
theorem test_exs_f :
    gives [0x0400]
      { start with f := Flags.ofByte 0x20, fShadow := ShadowFlags.ofByte 0xDF }
      (fun t => t.f == Flags.ofByte 0xFF && t.fShadow == ShadowFlags.ofByte 0x00) = true := by
  decide

/-- Vector M13. -/
theorem test_daa :
    gives [0x1001]
      { start with regs := { Regs.zero with a := 0x32 }, f := Flags.ofByte 0x19 }
      (fun t => t.regs.a == 0x98 && t.f == Flags.ofByte 0x19) = true := by
  decide

/-- Vector M14. -/
theorem test_das :
    gives [0x1009]
      { start with regs := { Regs.zero with a := 0x2D }, f := Flags.ofByte 0x10 }
      (fun t => t.regs.a == 0x27) = true := by
  decide

/-- Vector M18. -/
theorem test_sao_wraps :
    gives [0x1005]
      { start with regs := { Regs.zero with d := 0xFF }, f := Flags.ofByte 0x08 }
      (fun t => t.regs.d == 0x00) = true := by
  decide

/-- Vector M24. -/
theorem test_repi_r :
    gives [0x1003, 0x7005]
      { start with regs := { Regs.zero with a := 9 } }
      (fun t => t.regs.a == 4 && t.pc == 0x1000) = true := by
  decide

/-- Vector M27. -/
theorem test_repi_imm :
    gives [0x1010, 0x6031]
      { start with regs := { Regs.zero with h := 0x40, i := 0x50 }, mem := [(0x5000, 0x11), (0x5001, 0x22), (0x5002, 0x33)] }
      (fun t => t.reg16 .hl == 0x4002 && t.readByte 0x4001 == 0x22 && t.readByte 0x4002 == 0 && t.pc == 0x1004) = true := by
  decide

/-- Vector E3. -/
theorem test_ldpca :
    gives [0x103B, 0x0100]
      { start with k := 0x12, regs := { Regs.zero with d := 0xAB, s := 0xCD } }
      (fun t => t.reg16 .ds == 0x1204 && t.f == Flags.ofByte 0x02) = true := by
  decide

/-- Vector E7. -/
theorem test_ldixa :
    gives [0x104B, 0xFFF0]
      { start with regs := { Regs.zero with x := 5 } }
      (fun t => t.reg16 .hl == 0xFFF5 && t.f.a) = true := by
  decide

/-- Vector E10. -/
theorem test_ldspa :
    gives [0x107F, 0x0003]
      start
      (fun t => t.sp == 0xFF02) = true := by
  decide

/-- Vector D1. -/
theorem test_mulu :
    gives [0x1207]
      { start with regs := { Regs.zero with a := 0xFF, b := 0xFF } }
      (fun t => t.reg16 .ab == 0xFE01 && t.f == Flags.ofByte 0x80) = true := by
  decide

/-- Vector D4. -/
theorem test_mulsw :
    gives [0x122B]
      { start with regs := { Regs.zero with a := 0xFF, b := 0xFE, l := 3 } }
      (fun t => t.reg16 .ab == 0xFFFF && t.reg16 .hl == 0xFFFA) = true := by
  decide

/-- Vector D7. -/
theorem test_divu :
    gives [0x1240, 0x0056]
      { start with regs := { Regs.zero with a := 0x12, b := 0x34 } }
      (fun t => t.reg16 .ab == 0x1036) = true := by
  decide

/-- Vector D11. -/
theorem test_divsw :
    gives [0x1260, 0x0002]
      { start with regs := { Regs.zero with a := 0xFF, b := 0xFF, h := 0xFF, l := 0xF9 } }
      (fun t => t.reg16 .hl == 0xFFFD && t.reg16 .ab == 0xFFFF) = true := by
  decide

/-- Vector D14. -/
theorem test_divsw_overflows :
    gives [0x1260, 0x0001]
      { start with regs := { Regs.zero with h := 0x80 } }
      (fun t => t.f.v && !t.f.z) = true := by
  decide

/-- Vector U1. -/
theorem test_inc :
    gives [0x2003]
      { start with regs := { Regs.zero with a := 0x7F } }
      (fun t => t.regs.a == 0x80 && t.f == Flags.ofByte 0x94) = true := by
  decide

/-- Vector U12. -/
theorem test_incw_register :
    gives [0x240B]
      { start with regs := { Regs.zero with h := 0xFF, l := 0xFF } }
      (fun t => t.reg16 .hl == 0 && t.f == Flags.ofByte 0x08) = true := by
  decide

/-- Vector U20. -/
theorem test_decw_memory :
    gives [0x2532]
      { start with regs := { Regs.zero with i := 0x20 }, mem := [(0x2000, 0x01), (0x2001, 0x80)] }
      (fun t => t.readByte 0x2000 == 0xFF && t.readByte 0x2001 == 0x7F && t.f == Flags.ofByte 0x14) = true := by
  decide

/-- Vector U22. -/
theorem test_neg :
    gives [0x2203]
      { start with regs := { Regs.zero with a := 0x80 } }
      (fun t => t.regs.a == 0x80 && t.f == Flags.ofByte 0x8D) = true := by
  decide

/-- Vector U27. -/
theorem test_cpl :
    gives [0x2283]
      { start with regs := { Regs.zero with a := 0x55 } }
      (fun t => t.regs.a == 0xAA && t.f == Flags.ofByte 0x84) = true := by
  decide

/-- Vector S24. -/
theorem test_sla_memory :
    gives [0x3081]
      { start with regs := { Regs.zero with h := 0x20 }, mem := [(0x2000, 0x81)] }
      (fun t => t.readByte 0x2000 == 0x02 && t.regs.l == 1 && t.f == Flags.ofByte 0x0D) = true := by
  decide

/-- Vector S9. -/
theorem test_rr :
    gives [0x3063]
      { start with regs := { Regs.zero with a := 0x81 }, f := Flags.ofByte 0x01 }
      (fun t => t.regs.a == 0xC0 && t.f.c && t.f.a && t.f.s) = true := by
  decide

/-- Vector S16. -/
theorem test_sraw :
    gives [0x34AB]
      { start with regs := { Regs.zero with h := 0x80, l := 0x01 } }
      (fun t => t.reg16 .hl == 0xC000 && t.f == Flags.ofByte 0x89) = true := by
  decide

/-- Vector S30. -/
theorem test_bit_register_number :
    gives [0x358A]
      { start with regs := { Regs.zero with b := 0xFA, h := 0x20 }, f := Flags.ofByte 0x40, mem := [(0x2000, 0x04)] }
      (fun t => !t.f.z) = true := by
  decide

/-- Vector S34. -/
theorem test_res_port :
    gives [0x369E]
      { start with regs := { Regs.zero with b := 7, c := 0x10 }, portAnswers := [0xFF] }
      (fun t => t.ioLog == [.write 0x10 0x7F, .read 0x10 0xFF]) = true := by
  decide

/-- Vector S38. -/
theorem test_set_own_number :
    gives [0x3703]
      { start with regs := { Regs.zero with a := 6 } }
      (fun t => t.regs.a == 0x46 && t.f.z) = true := by
  decide

/-- Vector L2. -/
theorem test_ldw_same_pointer :
    gives [0x6421]
      { start with regs := { Regs.zero with h := 0x20 }, mem := [(0x2000, 0x34), (0x2001, 0x12)] }
      (fun t => t.reg16 .hl == 0x2004 && t.readByte 0x2000 == 0x34) = true := by
  decide

/-- Vector L8. -/
theorem test_ld_segment_by_d :
    gives [0x606C, 0x2000]
      { start with regs := { Regs.zero with d := 0x12, s := 0x34 }, f := Flags.ofByte 0x02, mem := [(0x122000, 0xA5)] }
      (fun t => t.regs.a == 0xA5) = true := by
  decide

/-- Vector L7. -/
theorem test_ld_segment_by_ds :
    gives [0x606C, 0x2000]
      { start with regs := { Regs.zero with d := 0x12, s := 0x34 }, mem := [(0x125400, 0x5A)] }
      (fun t => t.regs.a == 0x5A) = true := by
  decide

/-- Vector L36. -/
theorem test_ld_z_pointer :
    gives [0x5201]
      { start with regs := { Regs.zero with d := 1 }, mem := [(0, 0xFF), (1, 0xFF), (0x1FFFF, 0x21)] }
      (fun t => t.regs.a == 0x21 && t.f == Flags.ofByte 0x08 && t.readByte 1 == 0) = true := by
  decide

/-- Vector L45. -/
theorem test_ld_port :
    gives [0x1083]
      { start with regs := { Regs.zero with c := 0xFF }, portAnswers := [0x3C] }
      (fun t => t.regs.a == 0x3C && t.regs.c == 0 && t.ioLog == [.read 0xFF 0x3C]) = true := by
  decide

/-- Vector L58. -/
theorem test_ld_f :
    gives [0x12C3]
      { start with regs := { Regs.zero with a := 8 } }
      (fun t => t.f == Flags.ofByte 0x08) = true := by
  decide

/-- Vector T5. -/
theorem test_push :
    gives [0x4383]
      { start with regs := { Regs.zero with a := 0x12, b := 0x34 }, spHi := 0 }
      (fun t => t.sp == 0xFFFE && t.readByte 0xFFFE == 0x34 && t.readByte 0xFFFF == 0x12) = true := by
  decide

/-- Vector T10. -/
theorem test_pop :
    gives [0x430B]
      { start with spHi := 0x7F7F, mem := [(0xFEFE, 0x34), (0xFEFF, 0x12)] }
      (fun t => t.reg16 .hl == 0x1234 && t.sp == 0xFF00) = true := by
  decide

/-- Vector A9. -/
theorem test_add_word :
    gives [0x8700, 0x1234]
      { start with regs := { Regs.zero with h := 0x0F, l := 0xFF } }
      (fun t => t.reg16 .hl == 0x2233 && t.f == Flags.ofByte 0x10) = true := by
  decide

/-- Vector A12. -/
theorem test_adc :
    gives [0x9000]
      { start with regs := { Regs.zero with a := 0xFF }, f := Flags.ofByte 0x01 }
      (fun t => t.regs.a == 0 && t.f == Flags.ofByte 0x59) = true := by
  decide

/-- Vector A17. -/
theorem test_sub :
    gives [0xA001]
      { start with regs := { Regs.zero with a := 0x80 } }
      (fun t => t.regs.a == 0x7F && t.f == Flags.ofByte 0x14) = true := by
  decide

/-- Vector K1. -/
theorem test_djnz :
    gives [0x02FE]
      { start with regs := { Regs.zero with a := 2 }, f := Flags.ofByte 0xDF }
      (fun t => t.regs.a == 1 && t.pc == 0x0FFE && t.f == Flags.ofByte 0xDF) = true := by
  decide

/-- Vector K25. -/
theorem test_jp_keeps_a :
    gives [0xEC05]
      { start with regs := { Regs.zero with d := 1, h := 0xFF, l := 0xFE }, mem := [(0x1FFFF, 0x40)] }
      (fun t => t.reg16 .hl == 0 && t.pc == 0x4000 && !t.f.a) = true := by
  decide

/-- Vector K29. -/
theorem test_call_old_sp :
    gives [0xFC18, 0]
      { start with mem := [(0xFF01, 0x30)] }
      (fun t => t.pc == 0x3000 && t.sp == 0xFEFE && t.readByte 0xFEFE == 0x04) = true := by
  decide

/-- Vector K40. -/
theorem test_callf :
    gives [0xFE12, 0x3456]
      { start with k := 3, f := Flags.ofByte 0x85 }
      (fun t => t.k == 0x12 && t.pc == 0x3456 && t.readByte 0xFEFE == 0x85 && t.readByte 0xFEFF == 0x03) = true := by
  decide

/-- Vector K47. -/
theorem test_reti :
    gives [0xEF50]
      { start with spHi := 0x7F7E, e := 1, mem := [(0xFEFC, 0x04), (0xFEFD, 0x20), (0xFEFE, 0x21)] }
      (fun t => t.e == 5 && t.f == Flags.ofByte 0x21 && t.pc == 0x2004 && t.sp == 0xFF00) = true := by
  decide

/-- Vector U21: an odd word address. -/
theorem test_misaligned :
    stops [0x2512] { start with regs := { Regs.zero with i := 0x20, x := 0x01 } } (.misaligned 0x2001) = true := by
  decide

/-- Vector M29: REPI before a multiplication. -/
theorem test_repi_target : stops [0x1010, 0x1207] start .repiTarget = true := by decide

/-- Vector E12: an illegal encoding, with its word. -/
theorem test_illegal : stops [0x1067, 0] start (.illegalInstruction 0x1000 0x1067) = true := by decide

/-- Sequence I1: interrupt 2 is accepted. -/
theorem test_interrupt_entry :
    gives []
      { start with pcHi := 0x1002, f := Flags.ofByte 0x21, e := 5, inputs := [⟨none, false, 4, false⟩],
                   handlers := #v[0, 1, 2, 3, 4, 5, 6, 7] }
      (fun t => t.e == 1 && t.k == 0xFF && t.pc == 0x4010 && t.sp == 0xFEFC && t.readByte 0xFEFE == 0x21) = true := by
  decide

/-- The table word of a row is what step runs first after reset. -/
theorem test_fetch_word :
    (match step (State.reset.withFetchWord 16 0x7434) with
      | .next t => t.regs.b == 0x34 && t.pc == 2
      | .fault _ => false
      | .refused _ => false) = true := by
  decide

/-- R60: the memory of the reset state has its canonical form. -/
theorem test_reset_memory_canonical : State.reset.mem.wf = true := by decide

/-! ## Witnesses: a concrete state and operands that meet the hypotheses of each statement -/

/-- A running state at a quiet boundary over `LD A, $5A` (word $7000 + $5A) at $001000. -/
def quiet : State := placed [0x705A] start

theorem quiet_boundary : QuietBoundary quiet := ⟨by decide, by decide, by decide⟩

theorem witness_decodeReadsEncode : (Instr.ldw (.reg .sp) (.imm 0xFFFF)).wf = true := by decide

theorem witness_encodeRestoresWords :
    decode .default 0x6100 0x007F 0x1000 = .ok (.ld (.mem (.plain (.direct0 0x1000))) (.imm 0x7F)) ∧
      Params.default.padNonzero = .illegal := by
  decide

theorem witness_stepRunsDecoded :
    quiet.run = .running ∧ QuietBoundary quiet ∧ quiet.fetchAt quiet.pc = .ok (.ldRegImm .a 0x5A) :=
  ⟨by decide, quiet_boundary, by decide⟩

/-- Both modes, over the word $1067 (vector E12). -/
theorem witness_illegalEncodingRaises :
    (∃ e, (placed [0x1067] start).run = .running ∧ QuietBoundary (placed [0x1067] start) ∧
      (placed [0x1067] start).fetchAt (placed [0x1067] start).pc = .error e ∧
      (placed [0x1067] start).illegalMode = .fault) ∧
    (∃ e, (placed [0x1067] { start with illegalMode := .trap }).run = .running ∧
      QuietBoundary (placed [0x1067] { start with illegalMode := .trap }) ∧
      (placed [0x1067] { start with illegalMode := .trap }).fetchAt 0x1000 = .error e ∧
      (placed [0x1067] { start with illegalMode := .trap }).pc = 0x1000 ∧
      (placed [0x1067] { start with illegalMode := .trap }).illegalMode = .trap) :=
  ⟨⟨.illegalOperand, by decide, ⟨by decide, by decide, by decide⟩, by decide, by decide⟩,
   ⟨.illegalOperand, by decide, ⟨by decide, by decide, by decide⟩, by decide, by decide, by decide⟩⟩

/-- A halted state in which NMI and every request arrive. -/
def interrupted : State :=
  { start with run := .halted, e := 0xFF, f := Flags.ofByte 0x20, inputs := [⟨none, true, 0xFF, false⟩] }

theorem witness_nmiEntry :
    interrupted.run ≠ .stopped ∧ interrupted.input.reset = none ∧ interrupted.input.nmi = true := by decide

/-- A running state in which exactly interrupt n is enabled and pending. -/
def requested (n : Nat) : State :=
  { start with f := Flags.ofByte 0x20, e := 1 <<< n, inputs := [⟨none, false, 1 <<< n, false⟩] }

/-- The lowest and the highest interrupt number; with both requested and interrupt 7 put first, 7 comes first. -/
theorem witness_maskableEntry :
    (∀ n : Fin 8, n = 0 ∨ n = 7 →
      (requested n).run ≠ .stopped ∧ (requested n).input.reset = none ∧ (requested n).input.nmi = false ∧
      (requested n).f.i = true ∧ (requested n).e.getLsbD n = true ∧ (requested n).input.pending.getLsbD n = true ∧
      (requested n).params.irqFirst = [] ∧
      ∀ m : Fin 8, (requested n).params.irqOrder.idxOf m < (requested n).params.irqOrder.idxOf n →
        ((requested n).e.getLsbD m && (requested n).input.pending.getLsbD m) = false) ∧
    (let s := { requested 7 with
       e := 0xFF, inputs := [⟨none, false, 0xFF, false⟩], params := { Params.default with irqFirst := [7] } }
     ∀ m : Fin 8, s.params.irqOrder.idxOf m < s.params.irqOrder.idxOf (7 : Fin 8) →
       (s.e.getLsbD m && s.input.pending.getLsbD m) = false) := by
  decide

/-- The boundaries of the first clause: F.I clear with a request, F.I set with a request of a disabled interrupt, F.I set
with a request of an enabled one. -/
theorem test_accepted :
    State.accepted { start with e := 0xFF } 0xFF = none ∧
    State.accepted { start with e := 0x7F, f := Flags.ofByte 0x20 } 0x80 = none ∧
    State.accepted { start with e := 0x80, f := Flags.ofByte 0x20 } 0x80 = some 7 := by
  decide

/-- A halted core at a quiet boundary; a stopped core with and without its wake-up. -/
theorem witness_haltAndStop :
    ({ start with run := .halted }.run = .halted ∧ QuietBoundary { start with run := .halted }) ∧
    (∀ w : Bool, { start with run := .stopped, inputs := [⟨none, true, 0xFF, w⟩] }.run = .stopped ∧
      State.input { start with run := .stopped, inputs := [⟨none, true, 0xFF, w⟩] } = ⟨none, true, 0xFF, w⟩) :=
  ⟨⟨by decide, ⟨by decide, by decide, by decide⟩⟩, by decide⟩

/-- An instruction gives a next state of which `p` holds. -/
def runs (i : Instr) (s : State) (p : State → Bool) : Bool :=
  match exec i s with
  | .next t => p t
  | .fault _ => false
  | .refused _ => false

/-- The registers of vector S34, HL = $1002, IX = 1, and two port answers. -/
def portsReady : State :=
  { start with regs := { Regs.zero with b := 7, c := 0x10, h := 0x10, l := 0x02, x := 1 }, portAnswers := [0xFF, 0x55] }

/-- These words at K:PC, with a reset after `n` port accesses. -/
def resetDuring (n : Nat) (words : List Word) : State :=
  placed words { portsReady with inputs := [⟨some n, false, 0, false⟩] }

/-- Each clause: a stopped, a halted core; NMI; a request; an illegal encoding; a running core at a boundary without an
interrupt, over an instruction that ends and over one that stops. -/
theorem witness_externalReset :
    (∀ r ∈ [Run.stopped, .halted, .running],
      State.input { interrupted with run := r, inputs := [⟨some 1, true, 0xFF, true⟩] } = ⟨some 1, true, 0xFF, true⟩) ∧
    State.accepted { requested 7 with inputs := [⟨some 1, false, 0x80, false⟩] } 0x80 ≠ none ∧
    (resetDuring 1 [0x1067]).fetchAt 0x1000 = .error .illegalOperand ∧
    (resetDuring 1 [0x369E]).run = .running ∧ (resetDuring 1 [0x369E]).input = ⟨some 1, false, 0, false⟩ ∧
    (resetDuring 1 [0x369E]).accepted 0 = none ∧
    (resetDuring 1 [0x369E]).fetchAt 0x1000 = .ok (.resAccPort .b) ∧
    runs (.resAccPort .b) ((resetDuring 1 [0x369E]).inputTaken.setPc 0x1002) (fun _ => true) = true ∧
    (resetDuring 1 [0x2512]).fetchAt 0x1000 = .ok (.decw 0 (.mem (.plain (.ix .bank0)))) ∧
    runs (.decw 0 (.mem (.plain (.ix .bank0)))) ((resetDuring 1 [0x2512]).inputTaken.setPc 0x1002) (fun _ => true)
      = false := by
  refine ⟨by decide, by decide, by decide, by decide, by decide, by decide, by decide, by decide, by decide, by decide⟩

/-- REPI 2 with a reset after one port access reads this target, which it may repeat or not. -/
def repeats (w : Word) (t : Instr) (may : Bool) : Bool :=
  let s := resetDuring 1 [0x1010, w]
  decide (s.fetchAt 0x1000 = .ok (.repiImm 0)) && decide (s.fetchAt 0x1002 = .ok t) && repeatable t == may

/-- Each clause of REPI imm: a target it may not repeat, one that it repeats to the end, one that stores over itself. -/
theorem witness_externalReset_repi :
    repeats 0x1207 (.mulu (.loc (.reg .b))) false = true ∧ repeats 0x1287 (.ldPortInc (.loc (.reg .b))) true = true ∧
      repeats 0x1101 (.ldFromPort (.mem (.auto .bank0 .hl .inc))) true = true :=
  ⟨by decide, by decide, by decide⟩

/-- A step ends in the state right after reset, with these port accesses in the log and these answers left (R332). -/
def resets (s : State) (log : List IoEvent) (answers : List Byte) : Bool :=
  match step s with
  | .next t =>
    t.k == 0xFF && t.pc == 0 && t.run == .running && !t.f.i && t.e == 0 && t.ioLog == log && t.portAnswers == answers
  | .fault _ => false
  | .refused _ => false

/-- `RES [C], B` with a reset at its boundary, between its read and its write, and after its write. -/
theorem test_reset_during_res_port :
    resets (resetDuring 0 [0x369E]) [] [0xFF, 0x55] = true ∧
    resets (resetDuring 1 [0x369E]) [.read 0x10 0xFF] [0x55] = true ∧
    resets (resetDuring 2 [0x369E]) [.write 0x10 0x7F, .read 0x10 0xFF] [0x55] = true := by
  decide

/-- REPI 4 over `LD [C+], B` with a reset after two of its four port writes, and after all of them. -/
theorem test_reset_during_repi :
    resets (resetDuring 2 [0x1012, 0x1287]) [.write 0x11 7, .write 0x10 7] [0xFF, 0x55] = true ∧
    resets (resetDuring 9 [0x1012, 0x1287])
      [.write 0x13 7, .write 0x12 7, .write 0x11 7, .write 0x10 7] [0xFF, 0x55] = true := by
  decide

/-- REPI 2 over `LD [HL+], [C]` that stores over itself stops after its first read; a reset comes before the stop. -/
theorem test_reset_before_stop :
    resets (resetDuring 9 [0x1010, 0x1101]) [.read 0x10 0xFF] [0x55] = true ∧
    stops [0x1010, 0x1101] portsReady .selfModifyingRepi = true := by
  decide

theorem witness_stepKeepsMemoryCanonical : MemoryCanonical State.reset ∧ ∃ t, step State.reset = .next t :=
  ⟨by unfold MemoryCanonical; decide, _, rfl⟩

/-- A store. -/
theorem witness_storesOnlyThere :
    ¬ IsRepi (.ld (.mem (.plain .dsPair)) (.imm 1)) ∧
      ∃ t, exec (.ld (.mem (.plain .dsPair)) (.imm 1)) start = .next t :=
  ⟨(by rintro (⟨_, h⟩ | ⟨_, h⟩) <;> exact nomatch h), _, rfl⟩

/-- Each clause: an instruction that changes K, E, the shadow set, F', the run state, the I/O log. -/
theorem witness_systemStateWriters :
    [runs (.rst 1) start (fun t => t.k != start.k), runs (.ei 0xFF) start (fun t => t.e != start.e),
     runs (.exs { RegList.empty with a := true }) { start with regs := { Regs.zero with a := 1 } }
       (fun t => t.shadow != start.shadow),
     runs (.exs { RegList.empty with f := true }) { start with f := Flags.ofByte 1 }
       (fun t => t.fShadow != start.fShadow),
     runs .halt start (fun t => t.run != start.run),
     runs (.ldPort (.imm 1)) start (fun t => t.ioLog != start.ioLog)].all id = true := by
  decide

theorem witness_interruptAndSegmentFlagWriters :
    [runs (.setf 0x20) start (fun t => t.f.i != start.f.i), runs .sds start (fun t => t.f.d != start.f.d)].all id
      = true := by
  decide

theorem witness_registerViews : Reg16.ab ≠ Reg16.sp ∧ Reg16.ds ≠ Reg16.ab := by decide

/-- The hypotheses of a statement about the word `w` at a quiet boundary: `quiet` with `w` in the place of its word. -/
def atQuiet (w : Word) : Bool :=
  let s := placed [w] start
  decide (s.run = .running) && decide (s.input.reset = none) && decide (s.input.nmi = false) &&
    decide (s.accepted s.input.pending = none) && decide (s.fetchWord s.pc = w)

/-- The words of the implicit instructions. -/
theorem witness_implicitInstructions :
    (atQuiet 0x0000 && atQuiet 0x1008 && atQuiet 0x100C && atQuiet 0x1005 && atQuiet 0x100D) = true := by
  decide

/-- The words of the mask instructions, with the masks $00 and $FF. -/
theorem witness_maskInstructions :
    (atQuiet 0x1400 && atQuiet 0x16FF && atQuiet 0x15FF && atQuiet 0x1700) = true := by
  decide

theorem witness_exsExchanges :
    (0x05FF : Word) &&& 0xFA00 = 0 ∧ (0x05FF : Word) ≠ 0 ∧ atQuiet 0x05FF = true := by
  decide

/-- The words of the immediate loads, with the bytes $00 and $FF. -/
theorem witness_immediateLoads :
    (atQuiet 0x7000 && atQuiet 0x77FF && atQuiet 0x40FF && atQuiet 0x4100) = true := by
  decide

/-- A state whose HL is even and whose IX is odd. -/
def pointers : State := { start with regs := { Regs.zero with h := 0x20, l := 0xFE, x := 0x01 } }

/-- The word operand [HL+] is even: the hypothesis of every statement over 16-bit operands, sources and destinations. -/
theorem witness_evenMem : EvenMem pointers (some (.auto .bank0 .hl .inc)) := by
  intro x hx
  cases hx
  decide

/-- The odd word operand [IX] is allowed where `MISALIGNED` is `split`. -/
theorem witness_evenMem_split :
    EvenMem { pointers with params := { Params.default with misaligned := .split } } (some (.plain (.ix .bank0))) := by
  intro x hx
  cases hx
  decide

/-- Each clause: the default algorithms, and a table at its first and its last entry. -/
theorem witness_decimalAdjust :
    (start.params.daa = .customary ∧ start.params.das = .customary) ∧
    (∀ v : Vector (Byte × Bool) 1024, { start with params := { start.params with daa := .table v } }.params.daa = .table v) ∧
    4 * State.reset.regs.a.toNat + 2 * State.reset.f.h.toNat + State.reset.f.c.toNat = 0 ∧
    4 * (0xFF : Byte).toNat + 2 * true.toNat + true.toNat = 1023 ∧
    (∀ r : Byte × Bool, (Vector.replicate 1024 r)[0]? = some r ∧ (Vector.replicate 1024 r)[1023]? = some r) :=
  ⟨by decide, fun _ => rfl, by decide, by decide, fun r => ⟨by simp, by simp⟩⟩

theorem witness_effectiveAddressLoads : EvenMem pointers (Loc16.mem (.auto .bank0 .hl .inc)).memory := witness_evenMem

theorem witness_multiplications : EvenMem pointers (Src16.loc (.mem (.auto .bank0 .hl .inc))).memory := witness_evenMem

theorem witness_incDecWord : EvenMem pointers (some (.auto .bank0 .hl .inc)) := witness_evenMem

theorem witness_negCplNgcClrWord : EvenMem pointers (Loc16.mem (.auto .bank0 .hl .inc)).memory := witness_evenMem

theorem witness_wordShifts : EvenMem pointers (Loc16.mem (.auto .bank0 .hl .inc)).memory := witness_evenMem

theorem witness_loads :
    EvenMem pointers (Src16.loc (.mem (.auto .bank0 .hl .inc))).memory ∧
      EvenMem pointers (Loc16.mem (.auto .bank0 .hl .inc)).memory := ⟨witness_evenMem, witness_evenMem⟩

theorem witness_aluWordAccumulator : EvenMem pointers (Src16.loc (.mem (.auto .bank0 .hl .inc))).memory :=
  witness_evenMem

theorem witness_aluWordDestination : EvenMem pointers (Loc16.mem (.auto .bank0 .hl .inc)).memory := witness_evenMem

theorem witness_nearCalls : EvenMem pointers (Src16.loc (.mem (.auto .bank0 .hl .inc))).memory := witness_evenMem

/-- Each clause: a zero divisor, a divisor equal to A (the quotient just does not fit), a divisor just above A. -/
theorem witness_unsignedDivision :
    pointers.readSrc8 (.imm 0) = 0 ∧
    ((start.readSrc8 (.imm 1) ≠ 0 ∧ start.readSrc8 (.imm 1) ≤ { start with regs := { Regs.zero with a := 1 } }.regs.a) ∧
      { start with regs := { Regs.zero with a := 1 } }.regs.a < start.readSrc8 (.imm 2)) := by
  decide

/-- Each clause, the rounding the default: a zero divisor, the quotients -32768 (fits) and 32768 (does not), all at an even
operand. -/
theorem witness_signedDivision :
    (EvenMem start (Src16.imm 0).memory ∧ start.readSrc16 (.imm 0) = 0 ∧ start.params.divsRounding = .truncate) ∧
    (let s := { start with regs := { Regs.zero with h := 0x80 } }
     EvenMem s (Src16.imm 1).memory ∧ s.readSrc16 (.imm 1) ≠ 0 ∧
       32767 < (s.reg16 .ab ++ s.reg16 .hl).toInt.tdiv (s.readSrc16 (.imm 1)).toInt) ∧
    (let s := { start with regs := { Regs.zero with a := 0xFF, b := 0xFF, h := 0x80 } }
     EvenMem s (Src16.imm 1).memory ∧ s.readSrc16 (.imm 1) ≠ 0 ∧
       (s.reg16 .ab ++ s.reg16 .hl).toInt.tdiv (s.readSrc16 (.imm 1)).toInt = -32768) :=
  ⟨⟨fun _ h => (by cases h), by decide, by decide⟩, ⟨fun _ h => (by cases h), by decide, by decide⟩,
   ⟨fun _ h => (by cases h), by decide, by decide⟩⟩

theorem witness_ldRegImm_other : Reg8.b ≠ Reg8.a := by decide

/-- An even ZM word; a byte store whose place is not the stepped Z register; canonical memory. -/
theorem witness_zmLoads :
    AccessAllowed start (start.zmEa (.plusIx .bank0 3)) ∧ MemoryCanonical start ∧
      (start.zmEa (.auto .ds 3 .inc)).addr = 0 ∧ (start.zmEa (.auto .ds 3 .inc)).bytes16 = [0, 1] ∧
      autoBytes (zmAuto (.auto .ds 3 .inc)) = [6, 7] :=
  ⟨by decide, by unfold MemoryCanonical; decide, by decide, by decide, by decide⟩

theorem witness_pushPop :
    EvenMem pointers (Src16.loc (.mem (.auto .bank0 .hl .inc))).memory ∧
      EvenMem pointers (Loc16.mem (.auto .bank0 .hl .inc)).memory ∧ MemoryCanonical pointers :=
  ⟨witness_evenMem, witness_evenMem, by unfold MemoryCanonical; decide⟩

/-- Canonical memory: also the premise under which the statements give the bytes an instruction stored. -/
theorem witness_popUndoesPush : MemoryCanonical pointers := by unfold MemoryCanonical; decide

theorem witness_pushPopGroups : MemoryCanonical pointers := by unfold MemoryCanonical; decide

/-- The clauses of the conditional transfers: untaken, and taken with an even operand; a near pointer and a far one. -/
theorem witness_jumps :
    start.f.cond .z = false ∧ pointers.f.cond .nz = true ∧
      EvenMem pointers (Src16.loc (.mem (.auto .bank0 .hl .inc))).memory ∧
      EvenMem pointers (some (.plain (.hl .bank0))) := by
  refine ⟨by decide, by decide, witness_evenMem, ?_⟩
  intro x hx
  cases hx
  decide

theorem witness_farCalls :
    EvenMem pointers (some (.plain (.hl .bank0))) ∧
      EvenMem pointers (Src16.loc (.mem (.auto .bank0 .hl .inc))).memory ∧ MemoryCanonical pointers := by
  refine ⟨?_, witness_evenMem, by unfold MemoryCanonical; decide⟩
  intro x hx
  cases hx
  decide

theorem witness_returns : start.f.cond .z = false ∧ start.f.cond .nz = true := by decide

/-- The lowest and the highest interrupt number. -/
theorem witness_entryThenReturn :
    MemoryCanonical { start with e := 0x81 } ∧ { start with e := 0x81 }.run = .running ∧
      { start with e := (0x81 : Byte) }.e.getLsbD (0 : Fin 8) = true ∧
      { start with e := (0x81 : Byte) }.e.getLsbD (7 : Fin 8) = true :=
  ⟨by unfold MemoryCanonical; decide, by decide, by decide, by decide⟩

/-- Every clause: a target LD of bytes, whose execution completes; a target that faults. -/
theorem witness_repiRegister :
    ((placed [0x6023] start).fetchAt 0x1000 = .ok (.ld (.mem (.auto .bank0 .hl .inc)) (.loc (.reg .a))) ∧
      repeatable (.ld (.mem (.auto .bank0 .hl .inc)) (.loc (.reg .a))) = true ∧
      ∃ u, exec (.ld (.mem (.auto .bank0 .hl .inc)) (.loc (.reg .a))) ((placed [0x6023] start).setPc 0x1002)
        = .next u) ∧
    ((placed [0x2532] { start with regs := { Regs.zero with x := 1 } }).fetchAt 0x1000
        = .ok (.decw 1 (.mem (.plain (.ix .bank0)))) ∧
      repeatable (.decw 1 (.mem (.plain (.ix .bank0)))) = true ∧
      runs (.decw 1 (.mem (.plain (.ix .bank0)))) { start with regs := { Regs.zero with x := 1 } } (fun _ => true)
        = false) :=
  ⟨⟨by decide, by decide, _, rfl⟩, by decide, by decide, by decide⟩

/-- `LD [HL+], [IX+]`, the target of vector M27. -/
def copyStep : Instr := .ld (.mem (.auto .bank0 .hl .inc)) (.loc (.mem (.auto .bank0 .ix .inc)))

/-- The state of vector M27 with PC at the target, HL = $4000. -/
def copying : State :=
  placed [0x6031] { start with regs := { Regs.zero with h := 0x40, i := 0x50 }, mem := [(0x5000, 0x11), (0x5001, 0x22)] }

/-- Each clause: a target that stores, but not over itself (vector M27, two repetitions); a byte load into a register. -/
theorem witness_repiImmediate :
    (copying.fetchAt copying.pc = .ok copyStep ∧ repeatable copyStep = true ∧
      ∀ (m : Nat) (u v : State), m < (0 : BitVec 4).toNat + 2 →
        execTimes copyStep m (copying.setPc (copying.pc + BitVec.ofNat 16 copyStep.byteLength)) = .next u →
        exec copyStep u = .next v → ∀ a ∈ u.stores copyStep, a ∉ copying.codeBytes copying.pc copyStep.byteLength) ∧
    (placed [0x6072] start).fetchAt (placed [0x6072] start).pc = .ok (.ld (.reg .a) (.loc (.mem (.plain (.ix .bank0))))) := by
  refine ⟨⟨by decide, by decide, ?_⟩, by decide⟩
  intro m u v hm hu _
  have h2 : m = 0 ∨ m = 1 := by simp at hm; omega
  have code : copying.codeBytes copying.pc copyStep.byteLength = [0x1000, 0x1001] := by decide
  rw [code]
  rcases h2 with rfl | rfl
  · cases hu
    rw [show State.stores _ copyStep = [0x4000] by decide]
    simp
  · cases hu
    rw [show State.stores _ copyStep = [0x4001] by decide]
    simp

/-- A state in which `CLR [HL]` stands at $001000 and HL points at it. -/
def selfClearing : State := placed [0x238A] { start with regs := { Regs.zero with h := 0x10 } }

/-- A state in which `CLR [HL+]` stands at $001000 and HL points at the byte before it. -/
def clearingAhead : State := placed [0x2381] { start with regs := { Regs.zero with h := 0x0F, l := 0xFF } }

/-- A target that stores over its own word in the second repetition, not in the first. -/
theorem witness_repiStops_later :
    let i := Instr.clr (.mem (.auto .bank0 .hl .inc))
    clearingAhead.fetchAt 0x1000 = .ok i ∧ repeatable i = true ∧ 1 < (0 : BitVec 4).toNat + 2 ∧
      (clearingAhead.setPc 0x1002).stores i = [0x0FFF] ∧
      ∃ u v, execTimes i 1 (clearingAhead.setPc 0x1002) = .next u ∧ exec i u = .next v ∧ u.stores i = [0x1000] :=
  ⟨by decide, by decide, by decide, by decide, _, _, rfl, rfl, by decide⟩

/-- Each clause: a forbidden target, an illegal target, a target that stores over its own word. -/
theorem witness_repiStops :
    ((placed [0x1207] start).fetchAt 0x1000 = .ok (.mulu (.loc (.reg .b))) ∧
      repeatable (.mulu (.loc (.reg .b))) = false) ∧
    (placed [0x1067] start).fetchAt 0x1000 = .error .illegalOperand ∧
    (selfClearing.fetchAt 0x1000 = .ok (.clr (.mem (.plain (.hl .bank0)))) ∧
      repeatable (.clr (.mem (.plain (.hl .bank0)))) = true ∧
      (∃ u, exec (.clr (.mem (.plain (.hl .bank0)))) (selfClearing.setPc 0x1002) = .next u) ∧
      (selfClearing.setPc 0x1002).stores (.clr (.mem (.plain (.hl .bank0)))) = [0x1000] ∧
      selfClearing.codeBytes 0x1000 2 = [0x1000, 0x1001]) :=
  ⟨⟨by decide, by decide⟩, by decide, ⟨by decide, by decide, ⟨_, rfl⟩, by decide, by decide⟩⟩

/-- Each clause: the default `MISALIGNED`, an odd RM pointer (beside an even one as the source of LDW), an odd ZM pointer,
an odd far pointer, a condition that holds. -/
theorem witness_misalignedStops :
    pointers.params.misaligned = .fault ∧
      (pointers.memEa (.auto .bank0 .hl .inc)).addr.getLsbD 0 = false ∧ (pointers.memEa (.plain (.ix .bank0))).addr.getLsbD 0 = true ∧
      (pointers.zmEa (.plusIx .bank0 0)).addr.getLsbD 0 = true ∧
      (pointers.plainEa (.ix .bank0)).addr.getLsbD 0 = true ∧ pointers.f.cond .always = true := by
  decide

/-- Each clause: both values of `ODD_WRITE` and of `A_ON_AUTOINDEX`, both directions of an auto-index. -/
theorem witness_parameterDefaults :
    start.params.oddWrite = .discard ∧
      { start with params := { Params.default with oddWrite := .keep } }.params.oddWrite = .keep ∧
      start.params.aOnAutoIndex = .carry ∧
      { start with params := { Params.default with aOnAutoIndex := .free } }.params.aOnAutoIndex = .free ∧
      (AutoIndex.mk .ds (.z 15) .inc).dir = .inc ∧ (AutoIndex.mk .ds (.reg .hl) .dec).dir = .dec := by
  decide

/-! ## Parameters at other values than the defaults -/

/-- H out of bit 7, parity of the low byte only: $00FF + 1 sets H; $0100 has an even number (none) of 1 bits below bit 8. -/
theorem test_h16Bit_parityWidth :
    (addFlags { Params.default with h16Bit := 7 } (0x00FF : Word) 1 false).h = true ∧
    (addFlags Params.default (0x00FF : Word) 1 false).h = false ∧
    (logicFlags { Params.default with parityWidth := 8 } (0x0100 : Word)).v = true ∧
    (logicFlags Params.default (0x0100 : Word)).v = false := by
  decide

/-- An odd value loaded to SP, and popped to PC by RET: bit 0 dropped, or nothing written. -/
theorem test_oddWrite :
    [gives [0x67E0, 0x2001] start (fun t => t.sp == 0x2000),
     gives [0x67E0, 0x2001] { start with params := { Params.default with oddWrite := .keep } }
       (fun t => t.sp == 0xFF00),
     gives [0xEF00] { start with mem := [(0xFF01, 0x21)] } (fun t => t.pc == 0x2100),
     gives [0xEF00] { start with mem := [(0xFF00, 0x01), (0xFF01, 0x21)],
                                 params := { Params.default with oddWrite := .keep } }
       (fun t => t.pc == 0x1002 && t.sp == 0xFF02)].all id = true := by
  decide

/-- DS = $FFFF and offset $2000: the byte at $001F00, or at $FF1F00. -/
theorem test_linearWrap :
    [gives [0x606C, 0x2000]
       { start with regs := { Regs.zero with d := 0xFF, s := 0xFF }, mem := [(0x001F00, 0x12), (0xFF1F00, 0x34)] }
       (fun t => t.regs.a == 0x12),
     gives [0x606C, 0x2000]
       { start with regs := { Regs.zero with d := 0xFF, s := 0xFF }, mem := [(0x001F00, 0x12), (0xFF1F00, 0x34)],
                    params := { Params.default with linearWrap := .stayInBank } }
       (fun t => t.regs.a == 0x34)].all id = true := by
  decide

/-- LD A, DS:[Z0+] draws no free value, and one under `A_ON_AUTOINDEX` = `free`; the pointer steps in both. -/
theorem test_aOnAutoIndex :
    [gives [0x5201] start (fun t => t.fresh == 0 && t.readByte 0 == 1),
     gives [0x5201] { start with params := { Params.default with aOnAutoIndex := .free } }
       (fun t => t.fresh == 1 && t.readByte 0 == 1)].all id = true := by
  decide

/-- JRL over the word $4000: the offset $2000 in bits 15:1, or $4000 in bits 14:0; the pad is bit 0, or bit 15. -/
theorem test_pcr15Layout :
    let low := { Params.default with pcr15Layout := .low }
    reads 0xED00 0x4000 0 (.jrl .always 0x2000) = true ∧ decode low 0xED00 0x4000 0 = .ok (.jrl .always 0x4000) ∧
      decode low 0xED00 0x0101 0 = .ok (.jrl .always 0x0101) ∧ decode low 0xED00 0x8000 0 = .error .oddDisplacement ∧
      encode low (.jrl .always 0x4000) = [0xED00, 0x4000] := by
  decide

/-- BIT 0 of an immediate whose pad is $01: illegal, or the pad ignored. -/
theorem test_padNonzero :
    refuses 0x3100 0x0101 0 = true ∧
      decode { Params.default with padNonzero := .ignored } 0x3100 0x0101 0 = .ok (.bitImm 0 (.imm 1)) := by
  decide

/-- -7 divided by 2 under the three roundings. -/
theorem test_divsRounding :
    Rounding.truncate.quotient (-7) 2 = -3 ∧ Rounding.floor.quotient (-7) 2 = -4 ∧
      Rounding.euclid.quotient (-7) (-2) = 4 := by
  decide

/-- An odd word access, byte by byte. -/
theorem test_misaligned_split :
    gives [0x2512] { start with regs := { Regs.zero with i := 0x20, x := 0x01 }, mem := [(0x2001, 0xFF)],
                                params := { Params.default with misaligned := .split } }
      (fun t => t.readByte 0x2001 == 0xFE && t.readByte 0x2002 == 0x00) = true := by
  decide

/-- NMI with `IRQ_CLEARS_I`: I is clear, and set in the frame. -/
theorem test_irqClearsI :
    gives [] { start with f := Flags.ofByte 0x20, inputs := [⟨none, true, 0, false⟩],
                          params := { Params.default with irqClearsI := true } }
      (fun t => t.f == Flags.ofByte 0 && t.readByte 0xFEFE == 0x20 && t.pc == 8) = true := by
  decide

/-- DAA by a table whose every entry is ($42, C = 1). -/
theorem test_daa_table :
    decimalEntry (Vector.replicate 1024 (0x42, true)) 0xFF true true = (0x42, true) := by
  simp [decimalEntry]

/-- R363: a core halted at END is not in a final state; one running there is. -/
theorem test_atEnd : AtEnd 0x001000 start ∧ ¬ AtEnd 0x001000 { start with run := .halted } := by
  refine ⟨⟨by decide, by decide⟩, ?_⟩
  rintro ⟨h, _⟩
  exact absurd h (by decide)

end Sys2Proof.Tests
end

/-! PROOF. The fields of State that only system instructions may write (spec/10_state.md R25, R29, R30, R41), what each
shared operation and shape of instruction leaves of them, and `Obligations.SystemStateWriters`. -/

namespace Sys2Proof.Machine

/-- The part of the state that only system instructions, far transfers and port accesses may write: all but the general
registers, SP, PC, F, memory, the port answers still to come and the count of free values. -/
structure SystemFields where
  k : Byte
  e : Byte
  shadow : Regs
  fShadow : ShadowFlags
  run : Run
  ioLog : List IoEvent
  handlers : Vector (BitVec 11) 8
  illegalMode : IllegalMode
  params : Params
  inputs : List BoundaryInput

/-- The system fields of a state. -/
def State.system (s : State) : SystemFields :=
  ⟨s.k, s.e, s.shadow, s.fShadow, s.run, s.ioLog, s.handlers, s.illegalMode, s.params, s.inputs⟩

/-! ## The operations of the state -/

section
variable (s t : State)

@[simp] theorem State.setSp_system (v : Word) : (s.setSp v).system = s.system := by simp [State.system]
@[simp] theorem State.setPc_system (v : Word) : (s.setPc v).system = s.system := by simp [State.system]
@[simp] theorem State.setF_system (g : Flags) : (s.setF g).system = s.system := by simp [State.system]
@[simp] theorem State.setC_system (v : Byte) : (s.setC v).system = s.system := by simp [State.system]
@[simp] theorem State.setK_system (v : Byte) : (s.setK v).system = { s.system with k := v } := by simp [State.system]
@[simp] theorem State.setE_system (v : Byte) : (s.setE v).system = { s.system with e := v } := by simp [State.system]
@[simp] theorem State.drawn_system : s.drawn.system = s.system := by simp [State.system]
@[simp] theorem State.write8_system (ea : Ea) (v : Byte) : (s.write8 ea v).system = s.system := by simp [State.system]
@[simp] theorem State.write16_system (ea : Ea) (v : Word) : (s.write16 ea v).system = s.system := by simp [State.system]
@[simp] theorem State.popped_system : s.popped.system = s.system := by simp [State.system]
@[simp] theorem State.jumpBy_system (disp : Word) : (s.jumpBy disp).system = s.system := s.setPc_system _
@[simp] theorem State.portWrite_system (v : Byte) :
    (s.portWrite v).system = { s.system with ioLog := (s.portWrite v).ioLog } := by simp [State.system]

@[simp] theorem State.push16_system (v : Word) : (s.push16 v).system = s.system :=
  ((s.setSp _).write16_system _ v).trans (s.setSp_system _)

@[simp] theorem State.pushFar_system (ret : Word) : (s.pushFar ret).system = s.system := by
  simp only [State.pushFar, State.push16_system]

@[simp] theorem State.pushPairs_system (r : Regs) : (s.pushPairs r).system = s.system := by
  simp only [State.pushPairs, State.push16_system]

@[simp] theorem State.leave_system : s.leave.system = { s.system with k := s.leave.k } := by
  simp [State.system]

@[simp] theorem State.setReg8_system (r : Reg8) (v : Byte) : (s.setReg8 r v).system = s.system := by
  simp [State.system]

@[simp] theorem State.setReg16_system (r : Reg16) (v : Word) : (s.setReg16 r v).system = s.system := by
  simp [State.system]

@[simp] theorem State.portRead_system : s.portRead.system = { s.system with ioLog := s.portRead.ioLog } := by
  simp [State.system]

@[simp] theorem State.autoIndex_system (col : AColumn) (w : Nat) (src dst : Option AutoIndex) :
    (s.autoIndex col w src dst).system = s.system := by
  simp [State.system]

@[simp] theorem State.writeLoc8_system (l : Loc8) (v : Byte) : (s.writeLoc8 l v t).system = t.system := by
  simp [State.system]

@[simp] theorem State.writeLoc16_system (l : Loc16) (v : Word) : (s.writeLoc16 l v t).system = t.system := by
  simp [State.system]

/-! ## The shapes of instructions that always complete -/

@[simp] theorem State.modify8_system (col : AColumn) (l : Loc8) (op : Byte → Flags → Byte × Flags) :
    (s.modify8 col l op).system = s.system := by
  simp [State.modify8]

@[simp] theorem State.store8_system (l : Loc8) (v : Byte) : (s.store8 l v).system = s.system := by
  simp [State.store8]

@[simp] theorem State.testBit_system (b : BitVec 3) (src : Src8) : (s.testBit b src).system = s.system := by
  simp [State.testBit]

@[simp] theorem State.changeBit_system (op : BitOp) (b : BitVec 3) (dst : Loc8) :
    (s.changeBit op b dst).system = s.system := by
  simp [State.changeBit]

@[simp] theorem State.adjusted_system (r : Byte × Bool) : (s.adjusted r).system = s.system := by
  simp [State.adjusted]

@[simp] theorem State.popPair_system (r : Reg16) : (s.popPair r).system = s.system :=
  (s.popped.setReg16_system r _).trans s.popped_system

@[simp] theorem State.popPairs_system : s.popPairs.system = s.system := by
  simp only [State.popPairs, State.popPair_system]

@[simp] theorem State.popShadowPairs_system :
    s.popShadowPairs.system = { s.system with shadow := s.popShadowPairs.shadow } :=
  congrArg (fun f : SystemFields => { f with shadow := s.popShadowPairs.shadow }) s.popPairs_system

@[simp] theorem State.setAbhl_system (v : BitVec 32) : (s.setAbhl v).system = s.system := by
  simp [State.setAbhl]

@[simp] theorem State.dividedByZero_system : s.dividedByZero.system = s.system := by
  simp [State.dividedByZero]

@[simp] theorem State.divideU_system (d : Byte) : (s.divideU d).system = s.system := by
  unfold State.divideU
  dsimp only
  split
  · simp
  · split <;> simp

@[simp] theorem State.divideS_system (w : Word) : (s.divideS w).system = s.system := by
  unfold State.divideS
  dsimp only
  split
  · simp
  · split <;> simp

/-- Reading a port into an operand adds to the I/O log and writes no other system field. -/
theorem State.loadPort_system (dst : Loc8) (step : Byte) :
    (s.loadPort dst step).system = { s.system with ioLog := (s.loadPort dst step).ioLog } := by
  simp [State.loadPort]

/-- Writing an operand to a port adds to the I/O log and writes no other system field. -/
theorem State.storePort_system (src : Src8) (step : Byte) :
    (s.storePort src step).system = { s.system with ioLog := (s.storePort src step).ioLog } := by
  simp [State.storePort]

/-- BIT of a port adds to the I/O log and writes no other system field. -/
theorem State.testPort_system (b : BitVec 3) :
    (s.testPort b).system = { s.system with ioLog := (s.testPort b).ioLog } := by
  simp [State.testPort]

/-- RES and SET of a port add to the I/O log and write no other system field. -/
theorem State.changePort_system (op : BitOp) (b : BitVec 3) :
    (s.changePort op b).system = { s.system with ioLog := (s.changePort op b).ioLog } := by
  simp [State.changePort, State.testPort_system]

end

/-! ## Shapes that may stop -/

section
variable {s t u : State}

/-- The system fields of the state an outcome names. -/
theorem system_of_next {f : SystemFields} (h : (.next u : Result) = .next t) (hu : u.system = f) : t.system = f :=
  Host.Outcome.next.inj h ▸ hu

/-- What holds of the system fields behind an alignment check holds when the check passes. -/
theorem whenAligned_system {mode : Misaligned} {loc : Option Ea} {f : SystemFields}
    (h : whenAligned mode loc (.next u) = .next t) (hu : u.system = f) : t.system = f :=
  system_of_next (whenAligned_next h).1 hu

theorem modify16_system {col : AColumn} {l : Loc16} {op : Word → Flags → Word × Flags}
    (h : modify16 col l op s = .next t) : t.system = s.system :=
  whenAligned_system h (by simp)

theorem store16_system {l : Loc16} {v : Word} (h : store16 l v s = .next t) : t.system = s.system :=
  whenAligned_system h (by simp)

theorem alu8_system {op : AluOp} {r : Acc8} {src : Src8} (h : alu8 op r src s = .next t) : t.system = s.system :=
  system_of_next h (by cases hw : op.writes <;> simp)

theorem aluTo8_system {op : AluOp} {dst : Loc8} {r : Acc8} (h : aluTo8 op dst r s = .next t) : t.system = s.system :=
  system_of_next h (by cases hw : op.writes <;> simp)

theorem alu16_system {op : AluOp} {r : Acc16} {src : Src16} (h : alu16 op r src s = .next t) : t.system = s.system :=
  whenAligned_system h (by cases hw : op.writes <;> simp)

theorem aluTo16_system {op : AluOp} {dst : Loc16} {r : Acc16} (h : aluTo16 op dst r s = .next t) :
    t.system = s.system :=
  whenAligned_system h (by cases hw : op.writes <;> simp)

/-- A transfer through an rm16 operand writes K and no other system field. -/
theorem goTo_system {addr : Src16} {k : Byte} (h : goTo addr k s u = .next t) : t.system = { u.system with k := k } :=
  whenAligned_system h (by simp)

/-- A transfer through a far pointer in memory writes K and no other system field. -/
theorem goThrough_system {src : PlainMem} (h : goThrough src s u = .next t) :
    t.system = { u.system with k := s.readBank (s.plainEa src) } :=
  whenAligned_system h (by simp)

/-- POP ALL writes the shadow set and F' and no other system field. -/
theorem popAll_system (h : execPopAll s = .next t) :
    t.system = { s.system with shadow := t.shadow, fShadow := t.fShadow } := by
  have hp : s.popPairs.popShadowPairs.system = { s.system with shadow := s.popPairs.popShadowPairs.shadow } := by
    rw [State.popShadowPairs_system, State.popPairs_system]
  unfold execPopAll at h
  generalize s.popPairs.popShadowPairs = p at h hp
  cases h
  simp only [State.system, SystemFields.mk.injEq] at hp
  simp [State.system, hp]

end

/-! ## The statement -/

/-- From `s` to `t` K changes only if `k` holds, E only if `e`, the shadow set or F' only if `shadow`, the run state
only if `run`, the I/O log only if `io`; the parameters and the boundary inputs stay. -/
def SystemWrites (s t : State) (k e shadow run io : Prop) : Prop :=
  (t.k ≠ s.k → k) ∧ (t.e ≠ s.e → e) ∧ (t.shadow ≠ s.shadow ∨ t.fShadow ≠ s.fShadow → shadow) ∧
    (t.run ≠ s.run → run) ∧ (t.ioLog ≠ s.ioLog → io) ∧
    t.handlers = s.handlers ∧ t.illegalMode = s.illegalMode ∧ t.params = s.params ∧ t.inputs = s.inputs

section
variable {s t : State} {k e shadow run io : Prop}

/-- One equation of the system fields answers every clause: what it lets change is allowed to change. -/
theorem SystemWrites.of_system {k' e' : Byte} {shadow' : Regs} {fShadow' : ShadowFlags} {run' : Run}
    {ioLog' : List IoEvent}
    (h : t.system = { s.system with
      k := k', e := e', shadow := shadow', fShadow := fShadow', run := run', ioLog := ioLog' })
    (hk : k' ≠ s.k → k) (he : e' ≠ s.e → e) (hs : shadow' ≠ s.shadow → shadow)
    (hf : fShadow' ≠ s.fShadow → shadow) (hr : run' ≠ s.run → run) (hi : ioLog' ≠ s.ioLog → io) :
    SystemWrites s t k e shadow run io := by
  simp only [State.system, SystemFields.mk.injEq] at h
  obtain ⟨rfl, rfl, rfl, rfl, rfl, rfl, hh, hm, hp, hin⟩ := h
  exact ⟨hk, he, (Or.elim · hs hf), hr, hi, hh, hm, hp, hin⟩

theorem SystemWrites.of_kept (h : t.system = s.system) : SystemWrites s t k e shadow run io :=
  .of_system h (absurd rfl) (absurd rfl) (absurd rfl) (absurd rfl) (absurd rfl) (absurd rfl)

theorem SystemWrites.of_k {k' : Byte} (h : t.system = { s.system with k := k' }) (hk : k) :
    SystemWrites s t k e shadow run io :=
  .of_system h (fun _ => hk) (absurd rfl) (absurd rfl) (absurd rfl) (absurd rfl) (absurd rfl)

theorem SystemWrites.of_e {e' : Byte} (h : t.system = { s.system with e := e' }) (he : e) :
    SystemWrites s t k e shadow run io :=
  .of_system h (absurd rfl) (fun _ => he) (absurd rfl) (absurd rfl) (absurd rfl) (absurd rfl)

theorem SystemWrites.of_shadow {shadow' : Regs} {fShadow' : ShadowFlags}
    (h : t.system = { s.system with shadow := shadow', fShadow := fShadow' }) (hs : shadow) :
    SystemWrites s t k e shadow run io :=
  .of_system h (absurd rfl) (absurd rfl) (fun _ => hs) (fun _ => hs) (absurd rfl) (absurd rfl)

theorem SystemWrites.of_run {run' : Run} (h : t.system = { s.system with run := run' }) (hr : run) :
    SystemWrites s t k e shadow run io :=
  .of_system h (absurd rfl) (absurd rfl) (absurd rfl) (absurd rfl) (fun _ => hr) (absurd rfl)

theorem SystemWrites.of_ioLog {ioLog' : List IoEvent} (h : t.system = { s.system with ioLog := ioLog' }) (hi : io) :
    SystemWrites s t k e shadow run io :=
  .of_system h (absurd rfl) (absurd rfl) (absurd rfl) (absurd rfl) (absurd rfl) (fun _ => hi)

/-- A conditional transfer that is not taken writes nothing. -/
theorem SystemWrites.of_taken {c : Bool} {r : Result} (h : (if c then r else .next s) = .next t)
    (taken : r = .next t → SystemWrites s t k e shadow run io) : SystemWrites s t k e shadow run io := by
  cases c with
  | true => exact taken h
  | false => exact .of_kept (system_of_next h rfl)

theorem SystemWrites.of_ite {u : State} {c : Bool} (h : (.next (if c then u else s) : Result) = .next t)
    (taken : (.next u : Result) = .next t → SystemWrites s t k e shadow run io) :
    SystemWrites s t k e shadow run io :=
  .of_taken ((apply_ite _ _ _ _).symm.trans h) taken

end

/-- Settles O16: instruction by instruction, the equation of the system fields that its shape has. -/
theorem systemStateWriters : Obligations.SystemStateWriters := by
  intro i s t hi h
  cases i with
  | repiReg r => exact absurd (.inl ⟨r, rfl⟩) hi
  | repiImm n => exact absurd (.inr ⟨n, rfl⟩) hi
  -- 40_misc_system.md
  | nop | ccf | sds | daa | das | resf mask | setf mask =>
    exact SystemWrites.of_kept (system_of_next h (by simp))
  | sao | sau => exact SystemWrites.of_kept (system_of_next h (by split <;> simp))
  | exs list => exact SystemWrites.of_shadow (system_of_next h rfl) (by simp)
  | halt | stop => exact SystemWrites.of_run (system_of_next h rfl) (by simp)
  | di mask | ei mask => exact SystemWrites.of_e (system_of_next h rfl) (by simp)
  -- 41_effective_address.md, 42_muldiv.md
  | ldpca dst pcr16 | ldixa dst simm => exact SystemWrites.of_kept (whenAligned_system h (by simp))
  | ldspa dst imm => exact SystemWrites.of_kept (store16_system h)
  | mulu src | divu src => exact SystemWrites.of_kept (system_of_next h (by simp))
  | mulsw src | divsw src => exact SystemWrites.of_kept (whenAligned_system h (by simp))
  -- 43_unary.md, 44_shift_bit.md
  | inc field dst | dec field dst | neg dst | cpl dst | ngc dst | clr dst | rlc dst | rrc dst | rl dst | rr dst
  | sla dst | sra dst | swap dst | srl dst | bitImm bit src | resImm bit dst | setImm bit dst | bitAcc r src
  | resAcc r dst | setAcc r dst =>
    exact SystemWrites.of_kept (system_of_next h (by simp))
  | incw field dst | decw field dst => cases dst <;> exact SystemWrites.of_kept (modify16_system h)
  | negw dst | cplw dst | ngcw dst | slaw dst | sraw dst | swapw dst =>
    exact SystemWrites.of_kept (modify16_system h)
  | rlcw dst | rrcw dst | rlw dst | rrw dst | srlw dst =>
    exact SystemWrites.of_kept ((modify16_system h).trans s.drawn_system)
  | clrw dst => exact SystemWrites.of_kept (store16_system h)
  | bitImmPort bit | bitAccPort r =>
    exact SystemWrites.of_ioLog (system_of_next h (s.testPort_system _)) (by simp)
  | resImmPort bit | setImmPort bit | resAccPort r | setAccPort r =>
    exact SystemWrites.of_ioLog (system_of_next h (s.changePort_system _ _)) (by simp)
  -- 45_load.md
  | ldFromPortInc dst | ldFromPort dst | ldFromPortDec dst =>
    exact SystemWrites.of_ioLog (system_of_next h (s.loadPort_system _ _)) (by simp)
  | ldPortInc src | ldPort src | ldPortDec src =>
    exact SystemWrites.of_ioLog (system_of_next h (s.storePort_system _ _)) (by simp)
  | ldE src => exact SystemWrites.of_e (e' := s.readSrc8 src) (system_of_next h (by simp)) (by simp)
  | ldFromF dst | ldFromC dst | ldFromE dst | ldF src | ldC src | ldCImm imm | addCImm imm | ld dst src
  | ldRegImm r imm | stZm8 dst r | ldZm8 r src =>
    exact SystemWrites.of_kept (system_of_next h (by simp))
  | stZm16 dst r | ldZm16 r src => exact SystemWrites.of_kept (whenAligned_system h (by simp))
  | ldw dst src => exact SystemWrites.of_kept (whenAligned_system (whenAligned_next h).1 (by simp))
  -- 46_stack.md
  | pushKF | pushGpr | pushAll | popF | popGpr => exact SystemWrites.of_kept (system_of_next h (by simp))
  | push src | pop dst => exact SystemWrites.of_kept (whenAligned_system h (by simp))
  | popAll => exact SystemWrites.of_shadow (popAll_system h) (by simp)
  -- 47_alu.md
  | addImm8 r imm | addSrc8 r src | adcImm8 r imm | adcSrc8 r src | subImm8 r imm | subSrc8 r src | sbcImm8 r imm
  | sbcSrc8 r src | andImm8 r imm | andSrc8 r src | xorImm8 r imm | xorSrc8 r src | orImm8 r imm | orSrc8 r src
  | cpImm8 r imm | cpSrc8 r src =>
    exact SystemWrites.of_kept (alu8_system h)
  | addDst8 dst r | adcDst8 dst r | subDst8 dst r | sbcDst8 dst r | andDst8 dst r | xorDst8 dst r | orDst8 dst r
  | cpDst8 dst r =>
    exact SystemWrites.of_kept (aluTo8_system h)
  | addImm16 r imm | addSrc16 r src | adcImm16 r imm | adcSrc16 r src | subImm16 r imm | subSrc16 r src
  | sbcImm16 r imm | sbcSrc16 r src | andImm16 r imm | andSrc16 r src | xorImm16 r imm | xorSrc16 r src
  | orImm16 r imm | orSrc16 r src | cpImm16 r imm | cpSrc16 r src =>
    exact SystemWrites.of_kept (alu16_system h)
  | addDst16 dst r | adcDst16 dst r | subDst16 dst r | sbcDst16 dst r | andDst16 dst r | xorDst16 dst r
  | orDst16 dst r | cpDst16 dst r =>
    exact SystemWrites.of_kept (aluTo16_system h)
  -- 48_control.md
  | djnz8 r pcr8 | djnz16 r pcr8 => exact SystemWrites.of_kept (system_of_next h (by split <;> simp))
  | jr cond pcr10 | jrl cond pcr15 | ret cond =>
    exact SystemWrites.of_ite h fun h => .of_kept (system_of_next h (by simp))
  | callr pcr10 | callrl pcr15 => exact SystemWrites.of_kept (system_of_next h (by simp))
  | jp cond addr => exact SystemWrites.of_taken h fun h => .of_kept (goTo_system h)
  | call addr => exact SystemWrites.of_kept (goTo_system (u := s.push16 s.pc) h)
  | jpd cond addr => exact SystemWrites.of_taken h fun h => .of_k (goTo_system h) (by simp)
  | calld addr => exact SystemWrites.of_k (goTo_system (u := s.pushFar s.pc) h) (by simp)
  | jpfMem cond src => exact SystemWrites.of_taken h fun h => .of_k (goThrough_system h) (by simp)
  | callfMem src => exact SystemWrites.of_k (goThrough_system (u := s.pushFar s.pc) h) (by simp)
  | jpfAbs cond bank a16 =>
    exact SystemWrites.of_ite h fun h => .of_k (k' := bank) (system_of_next h (by simp)) (by simp)
  | callfAbs bank a16 => exact SystemWrites.of_k (k' := bank) (system_of_next h (by simp)) (by simp)
  | rst num => exact SystemWrites.of_k (k' := 0xFF) (system_of_next h (by simp)) (by simp)
  | retf cond =>
    exact SystemWrites.of_ite h fun h => .of_k (system_of_next h s.leave_system) (by simp)
  | reti int =>
    have hsys : (s.leave.setE (s.leave.e ||| bitMask int.toNat)).system =
        { s.system with k := s.leave.k, e := s.leave.e ||| bitMask int.toNat } := by
      rw [State.setE_system, State.leave_system]
    exact SystemWrites.of_system (system_of_next h hsys) (fun _ => by simp) (fun _ => by simp) (absurd rfl) (absurd rfl)
      (absurd rfl) (absurd rfl)

end Sys2Proof.Machine

/-! PROOF. A step at a quiet boundary (spec/60_exceptions.md R338) and `Obligations.StepRunsDecoded`. -/

namespace Sys2Proof

/-- The parameters move bits inside an extension word and add none (30_encoding.md R106). -/
theorem Instr.ext_length_params (i : Instr) (p q : Machine.Params) : (i.ext p).length = (i.ext q).length := by
  cases i <;> rfl

/-- The length in bytes is that of the instruction word and the extension words, whatever the parameters. -/
theorem Instr.byteLength_eq (i : Instr) (p : Machine.Params) : i.byteLength = 2 * (1 + (i.ext p).length) := by
  rw [Instr.byteLength, i.ext_length_params .default p]

end Sys2Proof

namespace Sys2Proof.Machine

section
variable {s : State}

/-- A boundary with no reset and a core that is not stopped: the entries and the instruction (R338). -/
theorem step_of_no_reset (hr : s.input.reset = none) (hs : s.run ≠ .stopped) :
    step s = boundary s.input s.inputTaken := by
  simp only [step, takeStep, hr]
  exact if_neg hs

/-- At a quiet boundary a running core runs the next instruction (R338). -/
theorem step_of_quiet (hrun : s.run = .running) (hq : QuietBoundary s) : step s = runInstr s.inputTaken := by
  obtain ⟨hreset, hnmi, hirq⟩ := hq
  have hirq' : s.inputTaken.accepted s.input.pending = none := hirq
  have hrun' : s.inputTaken.run = .running := hrun
  rw [step_of_no_reset hreset (by simp [hrun])]
  simp only [boundary, hnmi, hirq', hrun', if_true, Bool.false_eq_true, if_false]

/-- A word that decodes is executed with PC past the instruction (00_scope.md R16, 10_state.md R28). -/
theorem runInstr_of_decoded {i : Instr} (h : s.fetchAt s.pc = .ok i) :
    runInstr s = exec i (s.setPc (s.pc + BitVec.ofNat 16 i.byteLength)) := by
  simp only [runInstr, h]

end

/-- Settles O7: nothing is accepted, so the step is the instruction; its length does not depend on the parameters. -/
theorem stepRunsDecoded : Obligations.StepRunsDecoded := by
  intro s i hrun hq hi
  rw [step_of_quiet hrun hq, runInstr_of_decoded (s := s.inputTaken) hi, i.byteLength_eq s.params]
  rfl

end Sys2Proof.Machine

/-! PROOF. What the values of the parameters do (spec/00_scope.md R7; logs 36, 37) and `Obligations.ParameterDefaults`. -/

namespace Sys2Proof.Machine

/-! ## `ODD_WRITE` -/

/-- Bit 0 of the value is dropped (decision D1). -/
theorem afterWrite_discard {p : Params} (h : p.oddWrite = .discard) (old v : Word) :
    afterWrite p old v = v &&& 0xFFFE := by
  simp [afterWrite, h]

/-- An odd value is not written (log 37). -/
theorem afterWrite_keep {p : Params} (h : p.oddWrite = .keep) (old v : Word) :
    afterWrite p old v = if v.getLsbD 0 then old else v := by
  unfold afterWrite
  cases hv : v.getLsbD 0 with
  | true => simp [h]
  | false => simp only [h, ← extract_append_mask, extract_append_zero v hv, Bool.false_eq_true, and_false, if_false]

/-! ## `LINEAR_WRAP` -/

/-- The sum modulo 2^24 (decision D2). -/
theorem LinearWrap.truncate_toNat (b : Addr) (off : Word) :
    (LinearWrap.truncate.address b off).toNat = (b.toNat + off.toNat) % 2 ^ 24 := by
  have := off.isLt
  simp only [LinearWrap.address, BitVec.toNat_add, BitVec.toNat_setWidth]
  omega

/-- The bank of the base over the low half of any 24-bit word. -/
theorem bank_append_toNat (b sum : Addr) :
    (b.extractLsb' 16 8 ++ sum.extractLsb' 0 16).toNat = b.toNat / 65536 * 65536 + sum.toNat % 65536 := by
  have := b.isLt
  rw [BitVec.toNat_append, ← Nat.shiftLeft_add_eq_or_of_lt (BitVec.isLt _), Nat.shiftLeft_eq]
  simp only [BitVec.extractLsb'_toNat, Nat.shiftRight_eq_div_pow]
  omega

/-- A sum above $FFFFFF keeps the bank of its base (log 37). -/
theorem LinearWrap.stayInBank_toNat (b : Addr) (off : Word) :
    (LinearWrap.stayInBank.address b off).toNat =
      if b.toNat + off.toNat < 2 ^ 24 then b.toNat + off.toNat
      else b.toNat / 65536 * 65536 + (b.toNat + off.toNat) % 65536 := by
  have hsum := LinearWrap.truncate_toNat b off
  simp only [LinearWrap.address] at hsum ⊢
  split
  · next h => rw [hsum, Nat.mod_eq_of_lt h]
  · rw [bank_append_toNat, hsum]; omega

/-! ## `A_ON_AUTOINDEX` -/

theorem State.carry_inc (s : State) {a : AutoIndex} (h : a.dir = .inc) (w : Nat) :
    s.carry a w = decide (65535 < (s.pointer a.ptr).toNat + w) := by
  simp only [State.carry, h]

theorem State.carry_dec (s : State) {a : AutoIndex} (h : a.dir = .dec) (w : Nat) :
    s.carry a w = decide ((s.pointer a.ptr).toNat < w) := by
  simp only [State.carry, h]

/-- One "DS:" auto-index under the column `*` writes its carry to A (decision D4). -/
theorem State.adjustA_star_carry {s : State} (h : s.params.aOnAutoIndex = .carry) (c : Bool) :
    s.adjustA .star c = { s with f := { s.f with a := c } } := by
  simp only [State.adjustA, h, State.setF]

/-- One "DS:" auto-index under the column `*` draws a free value for A (log 37). -/
theorem State.adjustA_star_free {s : State} (h : s.params.aOnAutoIndex = .free) (c : Bool) :
    s.adjustA .star c = { s with f := { s.f with a := s.freeBit }, fresh := s.fresh + 1 } := by
  simp only [State.adjustA, h, State.drawA, State.setF, State.drawn]

/-! ## `PCR15_LAYOUT` and `PAD_NONZERO` -/

/-- A word with bit 15 clear is a zero over its lower 15 bits. -/
theorem zero_append_extract (w : Word) (h : w.getLsbD 15 = false) : 0#1 ++ w.extractLsb' 0 15 = w := by
  apply BitVec.eq_of_getLsbD_eq
  intro i hi
  rw [BitVec.getLsbD_append, BitVec.getLsbD_extractLsb']
  by_cases hlow : i < 15
  · simp [hlow]
  · obtain rfl : i = 15 := by omega
    simpa using h.symm

/-- A word holds an offset exactly when it is the word that the layout writes for it (30_encoding.md R106). -/
theorem Pcr15Layout.offset_eq_some (layout : Pcr15Layout) (w : Word) (o : BitVec 15) :
    layout.offset w = some o ↔ w = layout.word o := by
  refine ⟨fun h => ?_, fun h => h ▸ layout.offset_word o⟩
  cases layout with
  | high =>
    simp only [Pcr15Layout.offset] at h
    split at h
    · cases h
    · next hpad => cases h; exact (extract_append_zero w (by simpa using hpad)).symm
  | low =>
    simp only [Pcr15Layout.offset] at h
    split at h
    · cases h
    · next hpad => cases h; exact (zero_append_extract w (by simpa using hpad)).symm

/-- With `PAD_NONZERO` = `illegal` a word holds an immediate exactly when its high byte is zero (30_encoding.md R106). -/
theorem PadNonzero.illegal_imm8_eq_some (w : Word) (v : Byte) : PadNonzero.illegal.imm8 w = some v ↔ w = 0#8 ++ v := by
  refine ⟨fun h => ?_, fun h => h ▸ PadNonzero.illegal.imm8_padded v⟩
  simp only [PadNonzero.imm8] at h
  split at h
  · next hpad =>
    cases h
    calc w = hiByte w ++ loByte w := (pair_hiByte_loByte w).symm
      _ = 0#8 ++ w.extractLsb' 0 8 := congrArg (· ++ loByte w) hpad
  · cases h

/-- With `PAD_NONZERO` = `ignored` every word holds the immediate of its low byte (log 37). -/
theorem PadNonzero.ignored_imm8_eq_some (w : Word) (v : Byte) :
    PadNonzero.ignored.imm8 w = some v ↔ v = w.extractLsb' 0 8 := by
  simp only [PadNonzero.imm8, Option.some.injEq, eq_comm]

/-! ## The statement -/

/-- Settles O60: the defaults by evaluation of the reset state, each other clause by the lemma of its parameter. -/
theorem parameterDefaults : Obligations.ParameterDefaults := by
  refine ⟨by decide, fun s v => ⟨fun h => ?_, fun h => ?_⟩,
    fun b off => ⟨LinearWrap.truncate_toNat b off, LinearWrap.stayInBank_toNat b off⟩,
    fun s a w => ⟨fun h => s.carry_inc h w, fun h => s.carry_dec h w⟩,
    fun s c => ⟨fun h => State.adjustA_star_carry h c, fun h => State.adjustA_star_free h c⟩,
    fun w o => ⟨Pcr15Layout.high.offset_eq_some w o, Pcr15Layout.low.offset_eq_some w o⟩,
    fun w v => ⟨PadNonzero.illegal_imm8_eq_some w v, PadNonzero.ignored_imm8_eq_some w v⟩⟩
  · rw [State.setSp_sp_afterWrite, State.setPc_pc_afterWrite, afterWrite_discard h, afterWrite_discard h]
    exact ⟨rfl, rfl⟩
  · rw [State.setSp_sp_afterWrite, State.setPc_pc_afterWrite, afterWrite_keep h, afterWrite_keep h]
    exact ⟨rfl, rfl⟩

end Sys2Proof.Machine

/-! PROOF. The I and D flags (spec/10_state.md R34, R38), what each shared operation and shape of instruction leaves of
them, and `Obligations.InterruptAndSegmentFlagWriters`. -/

namespace Sys2Proof.Machine

/-- The two flags that no result is reported in: I, the master interrupt enable, and D, the data segment mode. -/
structure ModeFlags where
  i : Bool
  d : Bool

/-- I and D of F. -/
def Flags.modes (f : Flags) : ModeFlags := ⟨f.i, f.d⟩

/-! ## The operations of the state -/

/-- Whatever flags an operation of 47_alu.md writes, I and D are none of them (R289). -/
@[simp] theorem AluOp.putFlags_modes {w : Nat} (op : AluOp) (f : Flags) (o : Out w) :
    (op.putFlags f o).modes = f.modes := by
  cases h : op.isLogic <;> simp [AluOp.putFlags, h, Flags.putLogic, Flags.putArith, Flags.modes]

/-- A write of F keeps I and D when the value written has those of `s`. -/
theorem State.setF_modes {s t : State} {g : Flags} (hi : g.i = s.f.i) (hd : g.d = s.f.d) :
    (t.setF g).f.modes = s.f.modes :=
  congrArg₂ ModeFlags.mk hi hd

section
variable (s : State)

/-- An auto-index writes no flag but A (20_memory.md R82, R83). -/
@[simp] theorem State.autoIndex_modes (col : AColumn) (w : Nat) (src dst : Option AutoIndex) :
    (s.autoIndex col w src dst).f.modes = s.f.modes := by
  rw [State.autoIndex_f]; rfl

/-- A write of F before the auto-index keeps I and D when the value written has those of `s`. -/
theorem State.setF_autoIndex_modes {s t : State} {g : Flags} {col : AColumn} {w : Nat} {src dst : Option AutoIndex}
    (hi : g.i = s.f.i) (hd : g.d = s.f.d) : ((t.setF g).autoIndex col w src dst).f.modes = s.f.modes :=
  (State.autoIndex_modes ..).trans (State.setF_modes hi hd)

/-- A read-modify-write keeps I and D when its operation does. -/
theorem State.modify8_modes {col : AColumn} {l : Loc8} {op : Byte → Flags → Byte × Flags}
    (hop : ∀ x f, (op x f).2.modes = f.modes) : (s.modify8 col l op).f.modes = s.f.modes := by
  simp [State.modify8, hop]

@[simp] theorem State.store8_modes (l : Loc8) (v : Byte) : (s.store8 l v).f.modes = s.f.modes := by
  simp [State.store8]

/-- BIT of an operand writes Z, and A by its auto-index (44_shift_bit.md R220). -/
@[simp] theorem State.testBit_modes (b : BitVec 3) (src : Src8) : (s.testBit b src).f.modes = s.f.modes :=
  State.autoIndex_modes ..

theorem State.push16_modes (v : Word) : (s.push16 v).f.modes = s.f.modes := congrArg Flags.modes (s.push16_f v)

theorem State.pushPairs_modes (r : Regs) : (s.pushPairs r).f.modes = s.f.modes := by
  simp only [State.pushPairs, State.push16_modes]

theorem State.popPair_modes (r : Reg16) : (s.popPair r).f.modes = s.f.modes :=
  congrArg Flags.modes ((s.popped.setReg16_f r _).trans s.popped_f)

theorem State.popPairs_modes : s.popPairs.f.modes = s.f.modes := by
  simp only [State.popPairs, State.popPair_modes]

/-- A division writes Z, V and S in each of its outcomes (42_muldiv.md R182). -/
@[simp] theorem State.divideU_modes (d : Byte) : (s.divideU d).f.modes = s.f.modes := by
  unfold State.divideU
  dsimp only
  split
  · exact State.setF_modes rfl rfl
  · split <;> exact State.setF_modes rfl rfl

/-- A signed division writes Z, V and S in each of its outcomes (42_muldiv.md R183). -/
@[simp] theorem State.divideS_modes (w : Word) : (s.divideS w).f.modes = s.f.modes := by
  unfold State.divideS
  dsimp only
  split
  · exact State.setF_modes rfl rfl
  · split <;> exact State.setF_modes rfl rfl

@[simp] theorem State.loadPort_modes (dst : Loc8) (step : Byte) : (s.loadPort dst step).f.modes = s.f.modes := by
  simp [State.loadPort]

@[simp] theorem State.storePort_modes (src : Src8) (step : Byte) : (s.storePort src step).f.modes = s.f.modes :=
  State.autoIndex_modes ..

end

/-! ## Shapes that may stop -/

section
variable {s t u : State}

/-- I and D of the state an outcome names. -/
theorem modes_of_next {m : ModeFlags} (h : (.next u : Result) = .next t) (hu : u.f.modes = m) : t.f.modes = m :=
  Host.Outcome.next.inj h ▸ hu

/-- What holds of I and D behind an alignment check holds when the check passes. -/
theorem whenAligned_modes {mode : Misaligned} {loc : Option Ea} {m : ModeFlags}
    (h : whenAligned mode loc (.next u) = .next t) (hu : u.f.modes = m) : t.f.modes = m :=
  modes_of_next (whenAligned_next h).1 hu

theorem modify16_modes {col : AColumn} {l : Loc16} {op : Word → Flags → Word × Flags}
    (h : modify16 col l op s = .next t) (hop : ∀ x f, (op x f).2.modes = f.modes) : t.f.modes = s.f.modes :=
  whenAligned_modes h (by simp [hop])

theorem store16_modes {l : Loc16} {v : Word} (h : store16 l v s = .next t) : t.f.modes = s.f.modes :=
  whenAligned_modes h (by simp)

theorem alu8_modes {op : AluOp} {r : Acc8} {src : Src8} (h : alu8 op r src s = .next t) : t.f.modes = s.f.modes :=
  modes_of_next h (by simp)

theorem aluTo8_modes {op : AluOp} {dst : Loc8} {r : Acc8} (h : aluTo8 op dst r s = .next t) :
    t.f.modes = s.f.modes :=
  modes_of_next h (by simp)

theorem alu16_modes {op : AluOp} {r : Acc16} {src : Src16} (h : alu16 op r src s = .next t) :
    t.f.modes = s.f.modes :=
  whenAligned_modes h (by simp)

theorem aluTo16_modes {op : AluOp} {dst : Loc16} {r : Acc16} (h : aluTo16 op dst r s = .next t) :
    t.f.modes = s.f.modes :=
  whenAligned_modes h (by simp)

/-- A transfer through an rm16 operand changes no flag, auto-index or not (90_conflicts.md C5). -/
theorem goTo_modes {addr : Src16} {k : Byte} (h : goTo addr k s u = .next t) : t.f.modes = u.f.modes :=
  whenAligned_modes h (by simp)

/-- A transfer through a far pointer in memory changes no flag (48_control.md R309, R310). -/
theorem goThrough_modes {src : PlainMem} (h : goThrough src s u = .next t) : t.f.modes = u.f.modes :=
  whenAligned_modes h rfl

end

/-! ## The statement -/

/-- From `s` to `t` I changes only if `i` holds, D only if `d`. -/
def ModeWrites (s t : State) (i d : Prop) : Prop := (t.f.i ≠ s.f.i → i) ∧ (t.f.d ≠ s.f.d → d)

section
variable {s t : State} {i d : Prop}

/-- An instruction that may write all of F. -/
theorem ModeWrites.of_allowed (hi : i) (hd : d) : ModeWrites s t i d := ⟨fun _ => hi, fun _ => hd⟩

/-- An instruction that may write D and keeps I. -/
theorem ModeWrites.of_d {d' : Bool} (h : t.f.modes = { s.f.modes with d := d' }) (hd : d) : ModeWrites s t i d :=
  ⟨fun hne => absurd (congrArg ModeFlags.i h) hne, fun _ => hd⟩

theorem ModeWrites.of_kept (h : t.f.modes = s.f.modes) : ModeWrites s t i d :=
  ⟨fun hne => absurd (congrArg ModeFlags.i h) hne, fun hne => absurd (congrArg ModeFlags.d h) hne⟩

/-- A conditional transfer changes neither flag when taking it changes neither. -/
theorem ModeWrites.of_taken {c : Bool} {r : Result} (h : (if c then r else .next s) = .next t)
    (taken : r = .next t → t.f.modes = s.f.modes) : ModeWrites s t i d := by
  cases c with
  | true => exact .of_kept (taken h)
  | false => exact .of_kept (modes_of_next h rfl)

end

/-- Settles O17: instruction by instruction, what its shape leaves of I and D. -/
theorem interruptAndSegmentFlagWriters : Obligations.InterruptAndSegmentFlagWriters := by
  intro i s t hi h
  cases i with
  | repiReg r => exact absurd (.inl ⟨r, rfl⟩) hi
  | repiImm n => exact absurd (.inr ⟨n, rfl⟩) hi
  -- the writers
  | ldF src | popF | retf cond | reti int | popAll | resf mask | setf mask =>
    exact ModeWrites.of_allowed (by simp) (by simp)
  | exs list =>
    have hd : t.f.modes = { s.f.modes with d := if list.f then s.fShadow.d else s.f.d } :=
      modes_of_next h (by dsimp only; split <;> rfl)
    exact ModeWrites.of_d hd (by simp)
  | sds => exact ModeWrites.of_d (modes_of_next h rfl) (by simp)
  | ldpca dst pcr16 => exact ModeWrites.of_d (whenAligned_modes h (State.autoIndex_modes ..)) (by simp)
  -- 40_misc_system.md
  | nop | ccf | daa | das | halt | stop | di mask | ei mask => exact ModeWrites.of_kept (modes_of_next h rfl)
  | sao | sau => exact ModeWrites.of_kept (modes_of_next h (by split <;> simp))
  -- 41_effective_address.md, 42_muldiv.md
  | ldixa dst simm => exact ModeWrites.of_kept (whenAligned_modes h (State.setF_autoIndex_modes rfl rfl))
  | ldspa dst imm => exact ModeWrites.of_kept (store16_modes h)
  | mulu src => exact ModeWrites.of_kept (modes_of_next h (State.setF_autoIndex_modes rfl rfl))
  | divu src => exact ModeWrites.of_kept (modes_of_next h (by simp))
  | mulsw src => exact ModeWrites.of_kept (whenAligned_modes h (State.setF_autoIndex_modes rfl rfl))
  | divsw src => exact ModeWrites.of_kept (whenAligned_modes h (by simp))
  -- 43_unary.md, 44_shift_bit.md
  | inc field dst | dec field dst | neg dst | cpl dst | ngc dst | sla dst | sra dst | swap dst | resImm bit dst
  | setImm bit dst | resAcc r dst | setAcc r dst =>
    exact ModeWrites.of_kept (modes_of_next h (s.modify8_modes fun _ _ => rfl))
  | rlc dst | rrc dst | rl dst | rr dst | srl dst =>
    exact ModeWrites.of_kept (modes_of_next h (s.drawn.modify8_modes fun _ _ => rfl))
  | clr dst | bitImm bit src | bitAcc r src => exact ModeWrites.of_kept (modes_of_next h (by simp))
  | incw field dst | decw field dst => cases dst <;> exact ModeWrites.of_kept (modify16_modes h fun _ _ => rfl)
  | negw dst | cplw dst | ngcw dst | slaw dst | sraw dst | swapw dst =>
    exact ModeWrites.of_kept (modify16_modes h fun _ _ => rfl)
  | rlcw dst | rrcw dst | rlw dst | rrw dst | srlw dst =>
    exact ModeWrites.of_kept (modify16_modes (s := s.drawn) h fun _ _ => rfl)
  | clrw dst => exact ModeWrites.of_kept (store16_modes h)
  | bitImmPort bit | bitAccPort r | resImmPort bit | setImmPort bit | resAccPort r | setAccPort r =>
    exact ModeWrites.of_kept (modes_of_next h rfl)
  -- 45_load.md
  | ldFromPortInc dst | ldFromPort dst | ldFromPortDec dst | ldPortInc src | ldPort src | ldPortDec src | ldFromF dst
  | ldFromC dst | ldFromE dst | ldC src | ldE src | ldCImm imm | addCImm imm | ld dst src | ldRegImm r imm
  | stZm8 dst r | ldZm8 r src =>
    exact ModeWrites.of_kept (modes_of_next h (by simp))
  | stZm16 dst r | ldZm16 r src => exact ModeWrites.of_kept (whenAligned_modes h (by simp))
  | ldw dst src => exact ModeWrites.of_kept (whenAligned_modes (whenAligned_next h).1 (by simp))
  -- 46_stack.md
  | pushKF | pushGpr | pushAll =>
    exact ModeWrites.of_kept (modes_of_next h (by simp only [State.pushPairs_modes, State.push16_modes, State.drawn_f]))
  | popGpr => exact ModeWrites.of_kept (modes_of_next h (by rw [State.setC_f, State.popped_f, State.popPairs_modes]))
  | push src | pop dst => exact ModeWrites.of_kept (whenAligned_modes h (by simp))
  -- 47_alu.md
  | addImm8 r imm | addSrc8 r src | adcImm8 r imm | adcSrc8 r src | subImm8 r imm | subSrc8 r src | sbcImm8 r imm
  | sbcSrc8 r src | andImm8 r imm | andSrc8 r src | xorImm8 r imm | xorSrc8 r src | orImm8 r imm | orSrc8 r src
  | cpImm8 r imm | cpSrc8 r src =>
    exact ModeWrites.of_kept (alu8_modes h)
  | addDst8 dst r | adcDst8 dst r | subDst8 dst r | sbcDst8 dst r | andDst8 dst r | xorDst8 dst r | orDst8 dst r
  | cpDst8 dst r =>
    exact ModeWrites.of_kept (aluTo8_modes h)
  | addImm16 r imm | addSrc16 r src | adcImm16 r imm | adcSrc16 r src | subImm16 r imm | subSrc16 r src
  | sbcImm16 r imm | sbcSrc16 r src | andImm16 r imm | andSrc16 r src | xorImm16 r imm | xorSrc16 r src
  | orImm16 r imm | orSrc16 r src | cpImm16 r imm | cpSrc16 r src =>
    exact ModeWrites.of_kept (alu16_modes h)
  | addDst16 dst r | adcDst16 dst r | subDst16 dst r | sbcDst16 dst r | andDst16 dst r | xorDst16 dst r
  | orDst16 dst r | cpDst16 dst r =>
    exact ModeWrites.of_kept (aluTo16_modes h)
  -- 48_control.md
  | djnz8 r pcr8 | djnz16 r pcr8 => exact ModeWrites.of_kept (modes_of_next h (by split <;> simp [State.jumpBy]))
  | jr cond pcr10 | jrl cond pcr15 | ret cond | jpfAbs cond bank a16 =>
    exact ModeWrites.of_kept (modes_of_next h (by split <;> rfl))
  | callr pcr10 | callrl pcr15 | callfAbs bank a16 | rst num => exact ModeWrites.of_kept (modes_of_next h rfl)
  | jp cond addr | jpd cond addr => exact ModeWrites.of_taken h goTo_modes
  | call addr => exact ModeWrites.of_kept (goTo_modes (u := s.push16 s.pc) h)
  | calld addr => exact ModeWrites.of_kept (goTo_modes (u := s.pushFar s.pc) h)
  | jpfMem cond src => exact ModeWrites.of_taken h goThrough_modes
  | callfMem src => exact ModeWrites.of_kept (goThrough_modes (u := s.pushFar s.pc) h)

end Sys2Proof.Machine

/-! PROOF. The state after reset, the register views and the operand addresses (spec/10_state.md R21 to R26, R42, R45,
spec/20_memory.md R69 to R76): `Obligations.ResetState`, `Obligations.RegisterViews`, `Obligations.OperandAddresses`. -/

namespace Sys2Proof.Machine

/-- Settles O1: the fields of `State.reset` as they are written. -/
theorem resetState : Obligations.ResetState := ⟨rfl, rfl, rfl, rfl, rfl, rfl⟩

/-! ## Register views -/

/-- A pair reads as last written (10_state.md R21). -/
theorem State.setReg16_reg16_pair (s : State) {r : Reg16} (v : Word) (h : r ≠ .sp) : (s.setReg16 r v).reg16 r = v := by
  rw [State.setReg16_reg16_same]
  cases r with
  | sp => exact absurd rfl h
  | ab | hl | ix | ds => rfl

/-- Settles O19: the pairs by definition, the extensions by their values (10_state.md R24), the writes by the laws of
`setReg16`, SP by what `ODD_WRITE` stores. -/
theorem registerViews : Obligations.RegisterViews := fun s v =>
  ⟨rfl, rfl, rfl, rfl, BitVec.toInt_signExtend_of_le (by decide), BitVec.toInt_signExtend_of_le (by decide),
    BitVec.toNat_setWidth_of_le (by decide),
    fun _ hr => ⟨s.setReg16_reg16_pair v hr, fun _ hq => s.setReg16_reg16_other v hq⟩,
    s.setSp_sp_afterWrite v, rfl⟩

/-! ## Operand addresses -/

/-- Zero bits below a word shift it left. -/
theorem append_zero_eq_shiftLeft {n m : Nat} (x : BitVec n) : x ++ 0#m = x.zeroExtend (n + m) <<< m := by
  rw [BitVec.append_def, BitVec.shiftLeftZeroExtend_eq]
  simp

/-- The base of the data segment as a shift of D or of DS (20_memory.md R70). -/
theorem State.segBase_eq_shift (s : State) :
    s.segBase = if s.f.d then (s.regs.d.zeroExtend 24) <<< 16 else ((s.reg16 .ds).zeroExtend 24) <<< 8 := by
  unfold State.segBase
  split
  · exact append_zero_eq_shiftLeft s.regs.d
  · exact append_zero_eq_shiftLeft (s.reg16 .ds)

/-- The sum of base and offset as a natural number: one above $FFFFFF is truncated, or keeps bank $FF, where the base of
such a sum lies (20_memory.md R70, `LINEAR_WRAP`). -/
theorem LinearWrap.address_eq_ofNat (mode : LinearWrap) (b : Addr) (off : Word) :
    mode.address b off =
      let sum := b.toNat + off.toNat
      BitVec.ofNat 24 (if mode = .stayInBank ∧ 2 ^ 24 ≤ sum then 0xFF0000 + sum % 65536 else sum) := by
  have := b.isLt
  have := off.isLt
  apply BitVec.eq_of_toNat_eq
  cases mode with
  | truncate => simp [LinearWrap.truncate_toNat]
  | stayInBank =>
    rw [LinearWrap.stayInBank_toNat]
    simp only [BitVec.toNat_ofNat, true_and]
    split <;> split <;> omega

/-- Byte `k` of a location in bank $00 (20_memory.md R69, R73). -/
theorem Ea.bank0_byte (off : Word) (k : Nat) :
    (Ea.bank0 off).byte k = (off + BitVec.ofNat 16 k).zeroExtend 24 :=
  BitVec.zero_add _

/-- Byte `k` of a location in bank $01 (20_memory.md R72, 90_conflicts.md C1). -/
theorem Ea.bank1_byte (off : Word) (k : Nat) :
    (Ea.inBank 0x01 off).byte k = 0x010000 + (off + BitVec.ofNat 16 k).zeroExtend 24 := rfl

/-- Byte `k` of a location in the data segment (20_memory.md R70, R73). -/
theorem State.inSeg_ds_byte (s : State) (off : Word) (k : Nat) :
    (s.inSeg .ds off).byte k =
      let sum := s.segBase.toNat + (off + BitVec.ofNat 16 k).toNat
      BitVec.ofNat 24 (if s.params.linearWrap = .stayInBank ∧ 2 ^ 24 ≤ sum then 0xFF0000 + sum % 65536 else sum) :=
  LinearWrap.address_eq_ofNat _ _ _

/-- An offset in bank $00 too small to wrap is its own linear address (20_memory.md R69). -/
theorem Ea.bank0_byte_of_lt {n k : Nat} (h : n + k < 2 ^ 16) :
    (Ea.bank0 (BitVec.ofNat 16 n)).byte k = BitVec.ofNat 24 (n + k) := by
  rw [Ea.bank0_byte]
  apply BitVec.eq_of_toNat_eq
  simp only [BitVec.toNat_setWidth, BitVec.toNat_add, BitVec.toNat_ofNat]
  omega

/-- The linear address $000000 + 2n of the Z register n (10_state.md R42). -/
theorem shiftLeft_one_eq_ofNat (n : BitVec 4) : (n.zeroExtend 24 : Addr) <<< 1 = BitVec.ofNat 24 (2 * n.toNat) := by
  apply BitVec.eq_of_toNat_eq
  simp only [BitVec.toNat_shiftLeft, BitVec.toNat_setWidth, BitVec.toNat_ofNat, Nat.shiftLeft_eq]
  omega

/-- Byte `k` of the word Zn and beyond it (20_memory.md R76). -/
theorem Ea.zReg_byte (n : BitVec 4) {k : Nat} (hk : k < 4) :
    (Ea.zReg n).byte k = (n.zeroExtend 24 : Addr) <<< 1 + BitVec.ofNat 24 k := by
  rw [Ea.zReg, Ea.bank0_byte_of_lt (by omega), BitVec.ofNat_add, shiftLeft_one_eq_ofNat]

/-- Byte `k` of the upper half of Zn and beyond it (20_memory.md R76). -/
theorem Ea.zRegHigh_byte (n : BitVec 4) {k : Nat} (hk : k < 4) :
    (Ea.bank0 (BitVec.ofNat 16 (2 * n.toNat + 1))).byte k =
      (n.zeroExtend 24 : Addr) <<< 1 + 1 + BitVec.ofNat 24 k := by
  rw [Ea.bank0_byte_of_lt (by omega), BitVec.ofNat_add, BitVec.ofNat_add, shiftLeft_one_eq_ofNat]
  rfl

/-- The word Zn lies at $000000 + 2n (10_state.md R42). -/
theorem State.read16_zReg (s : State) (n : BitVec 4) :
    s.read16 (Ea.zReg n) =
      s.readByte ((n.zeroExtend 24 : Addr) <<< 1 + 1) ++ s.readByte ((n.zeroExtend 24 : Addr) <<< 1) := by
  rw [State.read16, Ea.zReg_byte n (by decide), Ea.zReg_byte n (by decide), BitVec.add_zero, pair]
  rfl

/-- Settles O18: each mode is a location in bank $00, in bank $01 or in the data segment, whose bytes the lemmas above
give; a ZM mode reads its offset from the word Zn first. -/
theorem operandAddresses : Obligations.OperandAddresses := by
  refine ⟨fun _ => rfl, fun s v k => ?_, fun s n u k => ?_⟩
  · have h0 := fun off => Ea.bank0_byte off k
    have hS := fun off => s.inSeg_ds_byte off k
    rw [s.segBase_eq_shift] at hS
    exact ⟨fun _ => ⟨h0 _, hS _, h0 _, hS _⟩, h0 _, hS _, h0 _, hS _, h0 _, hS _, h0 _, h0 _, Ea.bank1_byte v k, hS _,
      h0 _, hS _, h0 _⟩
  · have h0 := fun off => Ea.bank0_byte off k
    have hS := fun off => s.inSeg_ds_byte off k
    have hz := s.read16_zReg n
    have hk : k.val < 4 := by omega
    rw [s.segBase_eq_shift] at hS
    simp only [State.zmEa, hz]
    exact ⟨fun _ => ⟨h0 _, hS _⟩, h0 _, hS _, h0 _, hS _, h0 _, hS _, h0 _, Ea.zReg_byte n hk, Ea.zRegHigh_byte n hk⟩

end Sys2Proof.Machine

/-! PROOF. Where an instruction stores (spec/20_memory.md R80, R84, R85): the byte stores that lead from one memory to
another, those of each shared operation and shape of instruction, and from them `Obligations.StoresOnlyThere`,
`Obligations.ResetMemoryCanonical` and `Obligations.StepKeepsMemoryCanonical`. -/

namespace Sys2Proof.Machine

/-- `m'` is `m` after byte stores to addresses of `own` and no other. -/
inductive StoresWithin (own : List Addr) (m : Memory) : Memory → Prop
  | refl : StoresWithin own m m
  | store {m' : Memory} {a : Addr} (h : StoresWithin own m m') (ha : a ∈ own) (v : Byte) :
      StoresWithin own m (m'.write a.toNat v)

section
variable {own : List Addr} {m m' : Memory}

/-- A byte that no store goes to reads as before. -/
theorem StoresWithin.read_other (h : StoresWithin own m m') {a : Addr} (ha : a ∉ own) :
    m'.read a.toNat = m.read a.toNat := by
  induction h with
  | refl => rfl
  | @store m' b _ hb v ih =>
    have hne : a ≠ b := fun e => ha (e ▸ hb)
    exact (Memory.read_write_other m' v fun e => hne (BitVec.eq_of_toNat_eq e)).trans ih

/-- Stores keep the canonical form. -/
theorem StoresWithin.canonical (h : StoresWithin own m m') (hm : m.wf = true) : m'.wf = true := by
  induction h with
  | refl => exact hm
  | store _ _ v ih => exact Memory.wf_write ih _ v

theorem StoresWithin.mono {own' : List Addr} (h : StoresWithin own m m') (hs : own ⊆ own') :
    StoresWithin own' m m' := by
  induction h with
  | refl => exact .refl
  | store _ ha v ih => exact .store ih (hs ha) v

theorem StoresWithin.of_eq (h : m' = m) : StoresWithin own m m' := h ▸ .refl

/-! ## The operations of the state -/

section
variable {u : State} (h : StoresWithin own m u.mem)
include h

theorem StoresWithin.write8 {ea : Ea} (hb : ∀ b ∈ ea.bytes8, b ∈ own) (v : Byte) :
    StoresWithin own m (u.write8 ea v).mem :=
  .store h (hb _ (by simp [Ea.bytes8])) v

theorem StoresWithin.write16 {ea : Ea} (hb : ∀ b ∈ ea.bytes16, b ∈ own) (v : Word) :
    StoresWithin own m (u.write16 ea v).mem :=
  .store (.store h (hb _ (by simp [Ea.bytes16])) _) (hb _ (by simp [Ea.bytes16])) _

/-- One auto-index stores to the Z register it steps (R84). -/
theorem StoresWithin.step1 {a : Option AutoIndex} (hb : ∀ b ∈ autoBytes a, b ∈ own) (w : Nat) :
    StoresWithin own m (u.step1 a w).mem := by
  rcases a with _ | ⟨seg, ptr, dir⟩
  · exact h
  · cases ptr with
    | reg r => exact (congrArg _ (u.setPointer_reg_mem r _)).mpr h
    | z n => exact h.write16 hb _

theorem StoresWithin.autoIndex {src dst : Option AutoIndex} (hs : ∀ b ∈ autoBytes src, b ∈ own)
    (hd : ∀ b ∈ autoBytes dst, b ∈ own) (col : AColumn) (w : Nat) :
    StoresWithin own m (u.autoIndex col w src dst).mem := by
  rw [State.autoIndex_mem]
  exact (h.step1 hs w).step1 hd w

end

/-- The auto-index of an RM operand steps a register and stores nothing (R84). -/
@[simp] theorem State.step1_mem_of_autoBytes_nil (s : State) {a : Option AutoIndex} (h : autoBytes a = []) (w : Nat) :
    (s.step1 a w).mem = s.mem := by
  rcases a with _ | ⟨seg, ptr, dir⟩
  · rfl
  · cases ptr with
    | reg r => exact s.setPointer_reg_mem r _
    | z n => cases h

@[simp] theorem autoBytes_none : autoBytes none = [] := rfl

@[simp] theorem State.step1_none (s : State) (w : Nat) : s.step1 none w = s := rfl

section
variable (s : State)

theorem State.writeLoc8_storesWithin (l : Loc8) (v : Byte) {u : State} (h : u.mem = m) :
    StoresWithin (s.loc8Bytes l) m (s.writeLoc8 l v u).mem := by
  cases l with
  | reg r => exact .of_eq ((u.setReg8_mem r v).trans h)
  | mem x => exact (StoresWithin.of_eq h).write8 (fun _ hb => hb) v

theorem State.writeLoc16_storesWithin (l : Loc16) (v : Word) {u : State} (h : u.mem = m) :
    StoresWithin (s.loc16Bytes l) m (s.writeLoc16 l v u).mem := by
  cases l with
  | reg r => exact .of_eq ((u.setReg16_mem r v).trans h)
  | mem x => exact (StoresWithin.of_eq h).write16 (fun _ hb => hb) v

end

/-! ## The stack -/

/-- `u` is `s` after `n` pushes, as far as SP and memory go (R85). -/
structure Pushed (n : Nat) (s u : State) : Prop where
  sp : u.sp = s.sp - BitVec.ofNat 16 (2 * n)
  stores : StoresWithin (s.pushArea n) s.mem u.mem

theorem Pushed.zero {s u : State} (hsp : u.sp = s.sp) (hm : u.mem = s.mem) : Pushed 0 s u :=
  ⟨by simp [hsp], .of_eq hm⟩

theorem Pushed.push16 {n : Nat} {s u : State} (h : Pushed n s u) (v : Word) : Pushed (n + 1) s (u.push16 v) := by
  have hsp : u.sp - 2 = s.sp - BitVec.ofNat 16 (2 * (n + 1)) := by
    rw [h.sp]
    bv_omega
  refine ⟨(u.push16_sp v).trans hsp, ?_⟩
  have hb : ∀ b ∈ (Ea.bank0 (u.sp - 2)).bytes16, b ∈ s.pushArea (n + 1) := by
    rw [hsp]
    exact fun b hb => List.mem_append_right _ hb
  exact (h.stores.mono (List.subset_append_left ..)).write16 (u := u.setSp (u.sp - 2)) hb v

/-- PUSH GPR and PUSH ALL push the four pairs of a register set (46_stack.md R262, R263). -/
theorem Pushed.pushPairs {n : Nat} {s u : State} (h : Pushed n s u) (r : Regs) : Pushed (n + 4) s (u.pushPairs r) :=
  (((h.push16 _).push16 _).push16 _).push16 _

theorem State.pushed_push16 (s : State) (v : Word) : Pushed 1 s (s.push16 v) :=
  (Pushed.zero rfl rfl).push16 v

theorem State.pushed_pushFar (s : State) (ret : Word) : Pushed 2 s (s.pushFar ret) :=
  (s.pushed_push16 s.kf).push16 ret

/-! ## The shapes of instructions that always complete -/

section
variable (s : State)

theorem State.modify8_storesWithin (col : AColumn) (l : Loc8) (op : Byte → Flags → Byte × Flags) :
    StoresWithin (s.loc8Bytes l) s.mem (s.modify8 col l op).mem := by
  simpa [State.modify8] using s.writeLoc8_storesWithin l _ rfl

theorem State.store8_storesWithin (l : Loc8) (v : Byte) : StoresWithin (s.loc8Bytes l) s.mem (s.store8 l v).mem := by
  simpa [State.store8] using s.writeLoc8_storesWithin l v rfl

theorem State.loadPort_storesWithin (l : Loc8) (step : Byte) :
    StoresWithin (s.loc8Bytes l) s.mem (s.loadPort l step).mem := by
  simpa [State.loadPort] using s.writeLoc8_storesWithin l s.portIn s.portRead_mem

/-- A free value moves no operand. -/
@[simp] theorem State.drawn_memEa (m : Mem) : s.drawn.memEa m = s.memEa m := State.memEa_congr rfl rfl rfl rfl m

@[simp] theorem State.drawn_loc8Bytes (l : Loc8) : s.drawn.loc8Bytes l = s.loc8Bytes l := by
  cases l <;> simp [State.loc8Bytes]

@[simp] theorem State.drawn_loc16Bytes (l : Loc16) : s.drawn.loc16Bytes l = s.loc16Bytes l := by
  cases l <;> simp [State.loc16Bytes]

theorem State.drawn_modify8_storesWithin (col : AColumn) (l : Loc8) (op : Byte → Flags → Byte × Flags) :
    StoresWithin (s.loc8Bytes l) s.mem (s.drawn.modify8 col l op).mem :=
  s.drawn_loc8Bytes l ▸ s.drawn.modify8_storesWithin col l op

@[simp] theorem State.storePort_mem (src : Src8) (step : Byte) : (s.storePort src step).mem = s.mem := by
  simp [State.storePort]

@[simp] theorem State.testBit_mem (b : BitVec 3) (src : Src8) : (s.testBit b src).mem = s.mem := by
  simp [State.testBit]

@[simp] theorem State.testPort_mem (b : BitVec 3) : (s.testPort b).mem = s.mem := by
  simp [State.testPort]

@[simp] theorem State.changePort_mem (op : BitOp) (b : BitVec 3) : (s.changePort op b).mem = s.mem := by
  simp [State.changePort]

@[simp] theorem State.adjusted_mem (r : Byte × Bool) : (s.adjusted r).mem = s.mem := by
  simp [State.adjusted]

@[simp] theorem State.popPair_mem (r : Reg16) : (s.popPair r).mem = s.mem := s.popped.setReg16_mem r _

@[simp] theorem State.popPairs_mem : s.popPairs.mem = s.mem := by
  simp only [State.popPairs, State.popPair_mem]

@[simp] theorem State.popShadowPairs_mem : s.popShadowPairs.mem = s.mem := s.popPairs_mem

@[simp] theorem State.setAbhl_mem (v : BitVec 32) : (s.setAbhl v).mem = s.mem := by
  simp [State.setAbhl]

@[simp] theorem State.dividedByZero_mem : s.dividedByZero.mem = s.mem := by
  simp [State.dividedByZero]

@[simp] theorem State.divideU_mem (d : Byte) : (s.divideU d).mem = s.mem := by
  unfold State.divideU
  dsimp only
  split
  · simp
  · split <;> simp

@[simp] theorem State.divideS_mem (w : Word) : (s.divideS w).mem = s.mem := by
  unfold State.divideS
  dsimp only
  split
  · simp
  · split <;> simp

@[simp] theorem State.jumpBy_mem (disp : Word) : (s.jumpBy disp).mem = s.mem := s.setPc_mem _

@[simp] theorem State.counted_mem (r : RepReg) (repi : Word) : (s.counted r repi).mem = s.mem := by
  unfold State.counted
  dsimp only
  split <;> simp

end

/-! ## Shapes that may stop -/

section
variable {s t u : State}

theorem StoresWithin.of_next (h : (.next u : Result) = .next t) (hu : StoresWithin own m u.mem) :
    StoresWithin own m t.mem :=
  Host.Outcome.next.inj h ▸ hu

theorem StoresWithin.of_aligned {mode : Misaligned} {loc : Option Ea} (h : whenAligned mode loc (.next u) = .next t)
    (hu : StoresWithin own m u.mem) : StoresWithin own m t.mem :=
  .of_next (whenAligned_next h).1 hu

/-- An instruction that stores nothing. -/
theorem StoresWithin.of_next_eq (h : (.next u : Result) = .next t) (hu : u.mem = m) : StoresWithin own m t.mem :=
  .of_next h (.of_eq hu)

theorem modify16_storesWithin {col : AColumn} {l : Loc16} {op : Word → Flags → Word × Flags}
    (h : modify16 col l op s = .next t) : StoresWithin (s.loc16Bytes l) s.mem t.mem :=
  .of_aligned h (by simpa using s.writeLoc16_storesWithin l _ rfl)

theorem drawn_modify16_storesWithin {col : AColumn} {l : Loc16} {op : Word → Flags → Word × Flags}
    (h : modify16 col l op s.drawn = .next t) : StoresWithin (s.loc16Bytes l) s.mem t.mem :=
  s.drawn_loc16Bytes l ▸ modify16_storesWithin h

theorem store16_storesWithin {l : Loc16} {v : Word} (h : store16 l v s = .next t) :
    StoresWithin (s.loc16Bytes l) s.mem t.mem :=
  .of_aligned h (by simpa using s.writeLoc16_storesWithin l _ rfl)

theorem alu8_storesWithin {op : AluOp} {r : Acc8} {src : Src8} (h : alu8 op r src s = .next t) :
    StoresWithin [] s.mem t.mem :=
  .of_next_eq h (by cases hw : op.writes <;> simp)

theorem alu16_storesWithin {op : AluOp} {r : Acc16} {src : Src16} (h : alu16 op r src s = .next t) :
    StoresWithin [] s.mem t.mem :=
  .of_aligned h (.of_eq (by cases hw : op.writes <;> simp))

/-- An operation on an RM destination stores to it, but for CP, which stores nothing (47_alu.md R288). -/
theorem aluTo8_storesWithin {op : AluOp} {dst : Loc8} {r : Acc8} (h : aluTo8 op dst r s = .next t) :
    StoresWithin (if op.writes then s.loc8Bytes dst else []) s.mem t.mem := by
  refine .of_next h ?_
  cases hw : op.writes with
  | false => simpa [hw] using StoresWithin.refl
  | true => simpa [hw] using s.writeLoc8_storesWithin dst _ rfl

/-- An operation on an RM destination stores to it, but for CP, which stores nothing (47_alu.md R288). -/
theorem aluTo16_storesWithin {op : AluOp} {dst : Loc16} {r : Acc16} (h : aluTo16 op dst r s = .next t) :
    StoresWithin (if op.writes then s.loc16Bytes dst else []) s.mem t.mem := by
  refine .of_aligned h ?_
  cases hw : op.writes with
  | false => simpa [hw] using StoresWithin.refl
  | true => simpa [hw] using s.writeLoc16_storesWithin dst _ rfl

/-- A transfer through an operand stores what was pushed before it. -/
theorem goTo_storesWithin {addr : Src16} {k : Byte} (h : goTo addr k s u = .next t)
    (hu : StoresWithin own m u.mem) : StoresWithin own m t.mem :=
  .of_aligned h (by simpa using hu)

theorem goThrough_storesWithin {src : PlainMem} (h : goThrough src s u = .next t) (hu : StoresWithin own m u.mem) :
    StoresWithin own m t.mem :=
  .of_aligned h hu

/-- The last two pops of POP ALL, whatever they put into the registers and flags, store nothing. -/
theorem State.popped_popped_mem (p : State) (regs shadow : Regs) (f : Flags) (fShadow : ShadowFlags) :
    ({ ({ p.popped with shadow := shadow, regs := regs } : State).popped with fShadow := fShadow, f := f } : State).mem =
      p.mem := rfl

/-- POP ALL stores nothing (46_stack.md R267). -/
theorem popAll_mem (h : execPopAll s = .next t) : t.mem = s.mem := by
  have hp : s.popPairs.popShadowPairs.mem = s.mem := by simp
  unfold execPopAll at h
  generalize s.popPairs.popShadowPairs = p at h hp
  cases h
  exact (p.popped_popped_mem ..).trans hp

/-- A conditional transfer that is not taken stores nothing. -/
theorem StoresWithin.of_taken {c : Bool} {r : Result} (h : (if c then r else .next s) = .next t)
    (taken : r = .next t → StoresWithin own s.mem t.mem) : StoresWithin own s.mem t.mem := by
  cases c with
  | true => exact taken h
  | false => exact .of_next h .refl

end

end

/-! ## All instructions -/

/-- Every instruction but REPI stores to the addresses of `State.stores` alone: instruction by instruction, what its
shape stores. -/
theorem exec_storesWithin {i : Instr} {s t : State} (hi : ¬ IsRepi i) (h : exec i s = .next t) :
    StoresWithin (s.stores i) s.mem t.mem := by
  cases i with
  | repiReg r => exact absurd (.inl ⟨r, rfl⟩) hi
  | repiImm n => exact absurd (.inr ⟨n, rfl⟩) hi
  -- 40_misc_system.md
  | nop | exs list | halt | stop | ccf | resf mask | setf mask | di mask | ei mask => exact .of_next_eq h rfl
  | sds | daa | das => exact .of_next_eq h (by simp)
  | sao | sau => exact .of_next_eq h (by split <;> simp)
  -- 41_effective_address.md, 42_muldiv.md
  | ldpca dst pcr16 | ldixa dst simm =>
    show StoresWithin (s.loc16Bytes dst) s.mem t.mem
    exact .of_aligned h (by simpa using s.writeLoc16_storesWithin dst _ rfl)
  | ldspa dst imm => exact store16_storesWithin h
  | mulu src | divu src => exact .of_next_eq h (by simp)
  | mulsw src | divsw src => exact .of_aligned h (.of_eq (by simp))
  -- 43_unary.md, 44_shift_bit.md
  | inc field dst | dec field dst | neg dst | cpl dst | ngc dst | sla dst | sra dst | swap dst | resImm bit dst
  | setImm bit dst | resAcc r dst | setAcc r dst =>
    exact .of_next h (s.modify8_storesWithin ..)
  | rlc dst | rrc dst | rl dst | rr dst | srl dst => exact .of_next h (s.drawn_modify8_storesWithin ..)
  | clr dst => exact .of_next h (s.store8_storesWithin ..)
  | incw field dst | decw field dst => cases dst <;> exact modify16_storesWithin h
  | negw dst | cplw dst | ngcw dst | slaw dst | sraw dst | swapw dst => exact modify16_storesWithin h
  | rlcw dst | rrcw dst | rlw dst | rrw dst | srlw dst => exact drawn_modify16_storesWithin h
  | clrw dst => exact store16_storesWithin h
  | bitImm bit src | bitAcc r src | bitImmPort bit | bitAccPort r | resImmPort bit | setImmPort bit | resAccPort r
  | setAccPort r =>
    exact .of_next_eq h (by simp)
  -- 45_load.md
  | ldFromPortInc dst | ldFromPort dst | ldFromPortDec dst => exact .of_next h (s.loadPort_storesWithin ..)
  | ldFromF dst | ldFromC dst | ldFromE dst => exact .of_next h (s.store8_storesWithin ..)
  | ldPortInc src | ldPort src | ldPortDec src | ldF src | ldC src | ldE src | ldCImm imm | addCImm imm
  | ldRegImm r imm =>
    exact .of_next_eq h (by simp)
  | ld dst src => exact .of_next h ((s.writeLoc8_storesWithin dst _ rfl).autoIndex (by simp) (by simp) _ _)
  | ldw dst src =>
    exact .of_aligned (whenAligned_next h).1
      ((s.writeLoc16_storesWithin dst _ rfl).autoIndex (by simp) (by simp) _ _)
  | stZm8 dst r =>
    exact .of_next h ((StoresWithin.refl.write8 (fun _ hb => List.mem_append_left _ hb) _).autoIndex (by simp)
      (fun _ hb => List.mem_append_right _ hb) _ _)
  | ldZm8 r src =>
    exact .of_next h ((StoresWithin.of_eq (s.setReg8_mem ..)).autoIndex (fun _ hb => hb) (by simp) _ _)
  | stZm16 dst r =>
    exact .of_aligned h ((StoresWithin.refl.write16 (fun _ hb => List.mem_append_left _ hb) _).autoIndex (by simp)
      (fun _ hb => List.mem_append_right _ hb) _ _)
  | ldZm16 r src =>
    exact .of_aligned h ((StoresWithin.of_eq (s.setReg16_mem ..)).autoIndex (fun _ hb => hb) (by simp) _ _)
  -- 46_stack.md
  | pushKF => exact .of_next h (s.pushed_push16 _).stores
  | push src => exact .of_aligned h ((s.pushed_push16 _).stores.autoIndex (by simp) (by simp) _ _)
  | pushGpr => exact .of_next h ((s.pushed_push16 _).pushPairs _).stores
  | pushAll =>
    have drawn : Pushed 0 s s.drawn := .zero rfl rfl
    exact .of_next h ((((drawn.push16 _).push16 _).pushPairs _).pushPairs _).stores
  | pop dst =>
    exact .of_aligned h ((s.writeLoc16_storesWithin dst _ s.popped_mem).autoIndex (by simp) (by simp) _ _)
  | popF => exact .of_next_eq h rfl
  | popGpr => exact .of_next_eq h ((State.setC_mem ..).trans ((State.popped_mem _).trans s.popPairs_mem))
  | popAll => exact .of_eq (popAll_mem h)
  -- 47_alu.md
  | addImm8 r imm | addSrc8 r src | adcImm8 r imm | adcSrc8 r src | subImm8 r imm | subSrc8 r src | sbcImm8 r imm
  | sbcSrc8 r src | andImm8 r imm | andSrc8 r src | xorImm8 r imm | xorSrc8 r src | orImm8 r imm | orSrc8 r src
  | cpImm8 r imm | cpSrc8 r src =>
    exact alu8_storesWithin h
  | addDst8 dst r | adcDst8 dst r | subDst8 dst r | sbcDst8 dst r | andDst8 dst r | xorDst8 dst r | orDst8 dst r
  | cpDst8 dst r =>
    exact aluTo8_storesWithin h
  | addImm16 r imm | addSrc16 r src | adcImm16 r imm | adcSrc16 r src | subImm16 r imm | subSrc16 r src
  | sbcImm16 r imm | sbcSrc16 r src | andImm16 r imm | andSrc16 r src | xorImm16 r imm | xorSrc16 r src
  | orImm16 r imm | orSrc16 r src | cpImm16 r imm | cpSrc16 r src =>
    exact alu16_storesWithin h
  | addDst16 dst r | adcDst16 dst r | subDst16 dst r | sbcDst16 dst r | andDst16 dst r | xorDst16 dst r
  | orDst16 dst r | cpDst16 dst r =>
    exact aluTo16_storesWithin h
  -- 48_control.md
  | djnz8 r pcr8 | djnz16 r pcr8 => exact .of_next_eq h (by split <;> simp)
  | jr cond pcr10 | jrl cond pcr15 | ret cond | jpfAbs cond bank a16 | retf cond =>
    exact .of_next_eq h (by split <;> rfl)
  | reti int => exact .of_next_eq h rfl
  | callr pcr10 | callrl pcr15 => exact .of_next h (s.pushed_push16 _).stores
  | callfAbs bank a16 | rst num => exact .of_next h (s.pushed_pushFar _).stores
  | jp cond addr | jpd cond addr => exact .of_taken h fun h => goTo_storesWithin h .refl
  | call addr => exact goTo_storesWithin h (s.pushed_push16 _).stores
  | calld addr => exact goTo_storesWithin h (s.pushed_pushFar _).stores
  | jpfMem cond src => exact .of_taken h fun h => goThrough_storesWithin h .refl
  | callfMem src => exact goThrough_storesWithin h (s.pushed_pushFar _).stores

/-- Settles O15: what `exec_storesWithin` says, read byte by byte. -/
theorem storesOnlyThere : Obligations.StoresOnlyThere :=
  fun _ _ _ hi h _ ha => (exec_storesWithin hi h).read_other ha

/-! ## Steps -/

/-- An outcome that, if it is a next state, has a canonical memory. -/
def KeepsCanonical (r : Result) : Prop := ∀ t, r = .next t → MemoryCanonical t

section
variable {s : State}

theorem KeepsCanonical.next (h : MemoryCanonical s) : KeepsCanonical (.next s) :=
  fun _ e => Host.Outcome.next.inj e ▸ h

theorem KeepsCanonical.fault (e : Fault) : KeepsCanonical (.fault e) := fun _ h => nomatch h

theorem not_isRepi_of_repeatable {i : Instr} (h : repeatable i = true) : ¬ IsRepi i := by
  rintro (⟨r, rfl⟩ | ⟨n, rfl⟩) <;> cases h

theorem raiseIllegal_keepsCanonical (h : MemoryCanonical s) (addr w : Word) :
    KeepsCanonical (s.raiseIllegal addr w) := by
  unfold State.raiseIllegal
  split
  · exact .fault _
  · exact .next (s.enter_wf h ..)

/-- The target of REPI keeps the canonical memory, and stops where REPI may not repeat it (40_misc_system.md R152). -/
theorem execTarget_keepsCanonical {i : Instr} (hr : repeatable i = true) (h : MemoryCanonical s) :
    KeepsCanonical (execTarget i s) := by
  intro t e
  rw [execTarget_eq_exec i s hr] at e
  exact (exec_storesWithin (not_isRepi_of_repeatable hr) e).canonical h

/-- REPI keeps the canonical memory if what it does with a target that it may repeat does. -/
theorem withTarget_keepsCanonical {k : Instr → Result} (h : MemoryCanonical s)
    (hk : ∀ i, repeatable i = true → KeepsCanonical (k i)) : KeepsCanonical (s.withTarget k) := by
  unfold State.withTarget
  split
  · exact raiseIllegal_keepsCanonical h _ _
  · split
    · next hr => exact hk _ hr
    · exact .fault _

theorem repeatTarget_keepsCanonical {i : Instr} (hr : repeatable i = true) (own : List Addr) (n : Nat)
    (h : MemoryCanonical s) : KeepsCanonical (repeatTarget i own n s) := by
  induction n generalizing s with
  | zero => exact .next h
  | succ n ih =>
    unfold repeatTarget
    split
    · next u hu =>
      split
      · exact .fault _
      · exact ih (execTarget_keepsCanonical hr h u hu)
    · exact .fault _
    · exact fun _ e => nomatch e

theorem execRepiReg_keepsCanonical (r : RepReg) (h : MemoryCanonical s) : KeepsCanonical (execRepiReg r s) := by
  refine withTarget_keepsCanonical h fun i hr => ?_
  split
  · next u hu =>
    have hu' : MemoryCanonical u := execTarget_keepsCanonical (s := s.setPc _) hr h u hu
    exact .next ((congrArg Memory.wf (u.counted_mem r _)).trans hu')
  · exact .fault _
  · exact fun _ e => nomatch e

/-- Every instruction keeps the canonical memory, REPI included. -/
theorem exec_keepsCanonical (i : Instr) (h : MemoryCanonical s) : KeepsCanonical (exec i s) := by
  by_cases hi : IsRepi i
  · rcases hi with ⟨r, rfl⟩ | ⟨n, rfl⟩
    · exact execRepiReg_keepsCanonical r h
    · exact withTarget_keepsCanonical h fun _ hr => repeatTarget_keepsCanonical hr _ _ h
  · exact fun t e => (exec_storesWithin hi e).canonical h

theorem runInstr_keepsCanonical (h : MemoryCanonical s) : KeepsCanonical (runInstr s) := by
  unfold runInstr
  split
  · exact raiseIllegal_keepsCanonical h _ _
  · exact exec_keepsCanonical _ h

/-- A boundary keeps the canonical memory: NMI, an interrupt, an instruction, or a core that stays halted. -/
theorem boundary_keepsCanonical (b : BoundaryInput) (h : MemoryCanonical s) : KeepsCanonical (boundary b s) := by
  unfold boundary
  split
  · exact .next (s.enter_wf h ..)
  · split
    · next n _ => exact .next (s.enter_wf h 0xFF (s.handlerOff n) s.pc)
    · split
      · exact runInstr_keepsCanonical h
      · exact .next h

end

/-- Settles O13: nothing is listed after reset. -/
theorem resetMemoryCanonical : Obligations.ResetMemoryCanonical := rfl

/-- Settles O14: what an external reset leaves is canonical whatever it is; a stopped core stores nothing; all else is
a boundary. -/
theorem stepKeepsMemoryCanonical : Obligations.StepKeepsMemoryCanonical := by
  intro s t h
  suffices hk : KeepsCanonical (step s) from hk t
  unfold step takeStep
  dsimp only
  split
  · exact .next (State.resetEntry_mem_wf _)
  · split
    · exact .next (by split <;> exact h)
    · exact boundary_keepsCanonical _ h

end Sys2Proof.Machine

/-! PROOF. REPI and its target (spec/40_misc_system.md R150 to R152, spec/20_memory.md R93): the repetitions of REPI imm,
`Obligations.RepiStops` and `Obligations.RepiImmediate`. -/

namespace Sys2Proof.Machine

/-! ## The target of REPI -/

section
variable {s : State} {i : Instr} {k : Instr → Result}

theorem withTarget_of_repeatable (hf : s.fetchAt s.pc = .ok i) (hr : repeatable i = true) : s.withTarget k = k i := by
  simp only [State.withTarget, hf, hr, if_true]

theorem withTarget_of_forbidden (hf : s.fetchAt s.pc = .ok i) (hr : repeatable i = false) :
    s.withTarget k = .fault .repiTarget := by
  simp only [State.withTarget, hf, hr, Bool.false_eq_true, if_false]

theorem withTarget_of_illegal {e : DecodeError} (hf : s.fetchAt s.pc = .error e) :
    s.withTarget k = s.raiseIllegal s.pc (s.fetchWord s.pc) := by
  simp only [State.withTarget, hf]

/-- REPI imm over a target that it may repeat (R151). -/
theorem exec_repiImm_of_repeatable (n : BitVec 4) (hf : s.fetchAt s.pc = .ok i) (hr : repeatable i = true) :
    exec (.repiImm n) s = repeatTarget i (s.codeBytes s.pc i.byteLength) (n.toNat + 2)
      (s.setPc (s.pc + BitVec.ofNat 16 i.byteLength)) :=
  withTarget_of_repeatable hf hr

end

/-! ## Repetitions -/

section
variable {i : Instr} {own : List Addr} {s u v : State} {m n : Nat}

theorem execTimes_succ_of_next (h : exec i s = .next u) (n : Nat) : execTimes i (n + 1) s = execTimes i n u := by
  simp only [execTimes, h]

/-- Where more than no executions end, the first of them does. -/
theorem exec_next_of_execTimes_succ (h : execTimes i (n + 1) s = .next u) :
    ∃ w, exec i s = .next w ∧ execTimes i n w = .next u := by
  unfold execTimes at h
  split at h
  · next w hw => exact ⟨w, hw, h⟩
  · cases h
  · cases h

theorem any_contains_iff_storesOver : (s.stores i).any own.contains = true ↔ StoresOver i own s := by
  simp [StoresOver]

/-- A repetition that leaves the target's words alone goes on with the next one (R151). -/
theorem repeatTarget_of_not_storesOver (hr : repeatable i = true) (h : exec i s = .next u) (hs : ¬ StoresOver i own s) :
    repeatTarget i own (n + 1) s = repeatTarget i own n u := by
  rw [← any_contains_iff_storesOver] at hs
  simp only [repeatTarget, execTarget_eq_exec i s hr, h, if_neg hs]

/-- A repetition that stores over the target's words stops (20_memory.md R93). -/
theorem repeatTarget_of_storesOver (hr : repeatable i = true) (h : exec i s = .next u) (hs : StoresOver i own s) :
    repeatTarget i own (n + 1) s = .fault .selfModifyingRepi := by
  rw [← any_contains_iff_storesOver] at hs
  simp only [repeatTarget, execTarget_eq_exec i s hr, h, if_pos hs]

/-- As long as no repetition stores over the target's words, the repetitions are executions (R151). -/
theorem repeatTarget_eq_execTimes (hr : repeatable i = true)
    (hs : ∀ (m : Nat) (u v : State), m < n → execTimes i m s = .next u → exec i u = .next v → ¬ StoresOver i own u) :
    repeatTarget i own n s = execTimes i n s := by
  induction n generalizing s with
  | zero => rfl
  | succ n ih =>
    cases hx : exec i s with
    | next u =>
      rw [repeatTarget_of_not_storesOver hr hx (hs 0 s u (Nat.succ_pos n) rfl hx), execTimes_succ_of_next hx]
      exact ih fun m u' v hm hu => hs (m + 1) u' v (Nat.succ_lt_succ hm) ((execTimes_succ_of_next hx m).trans hu)
    | fault e => simp only [repeatTarget, execTimes, execTarget_eq_exec i s hr, hx]
    | refused e => simp only [repeatTarget, execTimes, execTarget_eq_exec i s hr, hx]

/-- Whichever repetition stores over the target's words, it or one before it stops for that (20_memory.md R93). -/
theorem repeatTarget_selfModifying (hr : repeatable i = true) (hm : m < n) (hu : execTimes i m s = .next u)
    (hv : exec i u = .next v) (hs : StoresOver i own u) : repeatTarget i own n s = .fault .selfModifyingRepi := by
  obtain ⟨n, rfl⟩ := Nat.exists_eq_add_one_of_ne_zero (Nat.ne_zero_of_lt hm)
  induction m generalizing n s with
  | zero =>
    cases hu
    exact repeatTarget_of_storesOver hr hv hs
  | succ m ih =>
    obtain ⟨w, hw, hu⟩ := exec_next_of_execTimes_succ hu
    by_cases ho : StoresOver i own s
    · exact repeatTarget_of_storesOver hr hw ho
    · rw [repeatTarget_of_not_storesOver hr hw ho]
      obtain ⟨n, rfl⟩ := Nat.exists_eq_add_one_of_ne_zero (n := n) (by omega)
      exact ih hu n (by omega)

end

/-- Settles O58: the set constructor by constructor; a forbidden or illegal target by what `withTarget` does with it;
the stores over its own words by `repeatTarget_selfModifying`. -/
theorem repiStops : Obligations.RepiStops := by
  refine ⟨fun i => ?_, fun r n s => ⟨fun i hf hr => ?_, fun e hf => ?_, ?_⟩⟩
  · cases i <;> simp [repeatable]
  · exact ⟨withTarget_of_forbidden hf hr, withTarget_of_forbidden hf hr⟩
  · exact ⟨withTarget_of_illegal hf, withTarget_of_illegal hf⟩
  · intro i m u v hf hr hm hu hv hs
    rw [exec_repiImm_of_repeatable n hf hr]
    exact repeatTarget_selfModifying hr hm hu hv hs

/-! ## LD of bytes as a target -/

/-- An even address stays even past an instruction. -/
theorem State.pc_add_byteLength_bit0 (s : State) (i : Instr) :
    (s.pc + BitVec.ofNat 16 i.byteLength).getLsbD 0 = false := by
  have hp := s.pc_bit0
  rw [i.byteLength_eq .default]
  simp only [BitVec.getLsbD, Nat.testBit_zero, BitVec.toNat_add, BitVec.toNat_ofNat, decide_eq_false_iff_not] at hp ⊢
  omega

/-- PC past an instruction (10_state.md R28). -/
theorem State.setPc_past_pc (s : State) (i : Instr) :
    (s.setPc (s.pc + BitVec.ofNat 16 i.byteLength)).pc = s.pc + BitVec.ofNat 16 i.byteLength :=
  s.setPc_pc_even (s.pc_add_byteLength_bit0 i)

/-- LD of bytes completes however often it is executed, and leaves PC alone (45_load.md R240). -/
theorem execTimes_ld (dst : Loc8) (src : Src8) (n : Nat) (s : State) :
    ∃ t, execTimes (.ld dst src) n s = .next t ∧ t.pc = s.pc := by
  induction n generalizing s with
  | zero => exact ⟨s, rfl, rfl⟩
  | succ n ih =>
    obtain ⟨u, hu, hpc⟩ : ∃ u, exec (.ld dst src) s = .next u ∧ u.pc = s.pc := ⟨_, rfl, by simp [State.pc]⟩
    obtain ⟨t, ht, htpc⟩ := ih u
    exact ⟨t, (execTimes_succ_of_next hu n).trans ht, htpc.trans hpc⟩

/-- As long as no repetition stores over the target's own words, REPI imm executes its target `n + 2` times (R151). -/
theorem exec_repiImm_eq_execTimes {n : BitVec 4} {i : Instr} {s : State} (hf : s.fetchAt s.pc = .ok i)
    (hr : repeatable i = true)
    (hs : ∀ (m : Nat) (u v : State), m < n.toNat + 2 →
      execTimes i m (s.setPc (s.pc + BitVec.ofNat 16 i.byteLength)) = .next u → exec i u = .next v →
      ∀ a ∈ u.stores i, a ∉ s.codeBytes s.pc i.byteLength) :
    exec (.repiImm n) s = execTimes i (n.toNat + 2) (s.setPc (s.pc + BitVec.ofNat 16 i.byteLength)) := by
  rw [exec_repiImm_of_repeatable n hf hr]
  exact repeatTarget_eq_execTimes hr fun m u v hm hu hv ⟨a, ha, hc⟩ => hs m u v hm hu hv a ha hc

/-- The executions of an LD of bytes that REPI imm makes end with PC past it. -/
theorem execTimes_ld_past (dst : Loc8) (src : Src8) (n : Nat) (s : State) : let i := Instr.ld dst src
    ∃ t, execTimes i n (s.setPc (s.pc + BitVec.ofNat 16 i.byteLength)) = .next t ∧
      t.pc = s.pc + BitVec.ofNat 16 i.byteLength := by
  intro i
  obtain ⟨t, ht, hpc⟩ := execTimes_ld dst src n (s.setPc (s.pc + BitVec.ofNat 16 i.byteLength))
  exact ⟨t, ht, hpc.trans (s.setPc_past_pc i)⟩

/-- Settles O57: without a store over the target's words the repetitions are executions, and those of LD complete; LD
into a register stores nothing at all. -/
theorem repiImmediate : Obligations.RepiImmediate := by
  constructor
  · intro n i s hf hr past hs
    have he := exec_repiImm_eq_execTimes hf hr hs
    refine ⟨he, ?_⟩
    rintro ⟨dst, src, rfl⟩
    exact he ▸ execTimes_ld_past dst src _ s
  · intro n r src s i hf
    rw [exec_repiImm_eq_execTimes hf rfl fun _ _ _ _ _ _ _ ha => absurd ha List.not_mem_nil]
    exact execTimes_ld_past (.reg r) src _ s

end Sys2Proof.Machine

/-! PROOF. Data accesses at odd linear addresses (spec/20_memory.md R64, spec/70_reset_and_hazards.md R366; decision D3)
and `Obligations.MisalignedStops`. -/

namespace Sys2Proof.Machine

/-- An odd location stops the access when `MISALIGNED` is `fault` (R64). -/
theorem whenAligned_odd {mode : Misaligned} {ea : Ea} (hm : mode = .fault) (ho : ea.addr.getLsbD 0 = true) (r : Result) :
    whenAligned mode (some ea) r = .fault (.misaligned ea.addr) := by
  subst hm
  exact if_pos ho

/-- Settles O59: every access is behind `whenAligned`, which stops at an odd location. -/
theorem misalignedStops : Obligations.MisalignedStops := by
  intro m p z k v r q cond s hm d a stops
  have odd : ∀ {ea : Ea} {x : Result}, ea.addr.getLsbD 0 = true →
      whenAligned s.params.misaligned (some ea) x = .fault (.misaligned ea.addr) := fun ho => whenAligned_odd hm ho _
  have ldw : ∀ src : Src16, EvenMem s src.memory → stops (s.memEa m) (.ldw d src) := by
    intro src he ho
    rw [exec_ldw, execLdw, src16Ea_eq, whenAligned_evenMem he]
    exact odd ho
  -- RLCW, RRCW, RLW, RRW and SRLW draw a free V first (44_shift_bit.md R210)
  have drawn : ∀ {x : Result}, (s.memEa m).addr.getLsbD 0 = true →
      whenAligned s.drawn.params.misaligned (s.drawn.loc16Ea d) x = .fault (.misaligned (s.memEa m).addr) := by
    intro x ho
    rw [State.loc16Ea, State.drawn_memEa]
    exact odd ho
  refine ⟨?_, ldw, ?_, odd, fun hc => ⟨fun ho => ?_, fun ho => ?_, fun ho => ?_⟩⟩
  · simp only [List.forall_mem_cons]
    refine ⟨odd, odd, odd, odd, odd, odd, odd, odd, odd, drawn, drawn, drawn, drawn, odd, odd, odd, drawn, odd, odd, odd,
      odd, odd, odd, odd, odd, odd, ldw _ ?_, odd, odd, odd, odd, odd, odd, odd, odd, odd, odd, odd, odd, odd, odd, ?_⟩
    · exact fun _ h => nomatch h
    · exact List.forall_mem_nil _
  · simp only [List.forall_mem_cons]
    exact ⟨odd, odd, List.forall_mem_nil _⟩
  · rw [exec_jp, execJp, if_pos hc]
    exact odd ho
  · rw [exec_jpd, execJpd, if_pos hc]
    exact odd ho
  · rw [exec_jpfMem, execJpfMem, if_pos hc]
    exact odd ho

end Sys2Proof.Machine

/-! PROOF. BIT, RES and SET of a port (spec/20_memory.md R67, spec/44_shift_bit.md R219 to R222) and
`Obligations.PortBitInstructions`. -/

namespace Sys2Proof.Machine

section
variable (s : State)

/-- What a port read returns is the environment's answer where it has one (R62). -/
theorem State.portIn_portAnswer : PortAnswer s s.portIn := by
  intro w rest h
  simp only [State.portIn, h]

/-- A port read in the words of the statements: the answer is taken and logged, and a free value may have been drawn. -/
theorem State.portRead_eq_afterPortRead :
    s.portRead = { s.afterPortRead s.portIn with fresh := s.portRead.fresh } := by
  cases h : s.portAnswers with
  | nil => simp [State.portRead, State.portIn, State.afterPortRead, h]
  | cons v rest => simp [State.portRead, State.portIn, State.afterPortRead, h]

/-- BIT of a port: one read, and Z of the bit it answered (R220). -/
theorem State.testPort_eq (b : BitVec 3) :
    s.testPort b = { s.afterPortRead s.portIn with
      f := { s.f with z := !s.portIn.getLsbD b.toNat }, fresh := (s.testPort b).fresh } :=
  congrArg (State.setF · (s.f.putBit b s.portIn)) s.portRead_eq_afterPortRead

/-- RES and SET of a port: as BIT, then one write of the same port (R221, R222). -/
theorem State.changePort_eq (op : BitOp) (b : BitVec 3) :
    s.changePort op b = { s.afterPortRead s.portIn with
      f := { s.f with z := !s.portIn.getLsbD b.toNat }, fresh := (s.changePort op b).fresh
      ioLog := .write s.regs.c (op.result b s.portIn) :: .read s.regs.c s.portIn :: s.ioLog } :=
  congrArg (State.portWrite · (op.result b s.portIn)) (s.testPort_eq b)

end

/-- Settles O37: the value read is `State.portIn`, and each instruction ends as `testPort_eq` or `changePort_eq` says. -/
theorem portBitInstructions : Obligations.PortBitInstructions := by
  intro s b r low3 tests writes
  have test : ∀ (i : Instr) (b : BitVec 3), exec i s = .next (s.testPort b) → tests i b :=
    fun i b he => ⟨_, s.portIn, he, s.portIn_portAnswer, s.testPort_eq b⟩
  have change : ∀ (i : Instr) (op : BitOp) (b : BitVec 3), exec i s = .next (s.changePort op b) →
      writes i b (op.result b) :=
    fun i op b he => ⟨_, s.portIn, he, s.portIn_portAnswer, s.changePort_eq op b⟩
  exact ⟨test _ _ rfl, test _ _ rfl, change _ .res _ rfl, change _ .res _ rfl, change _ .set _ rfl, change _ .set _ rfl⟩

end Sys2Proof.Machine

/-! PROOF. The loads and stores through a ZM operand (spec/20_memory.md R76, R84, spec/45_load.md R243 to R246) and
`Obligations.ZmLoads`. -/

namespace Sys2Proof.Machine

@[simp] theorem State.dsCarry_none (s : State) (w : Nat) : s.dsCarry none w = none := rfl

/-- One auto-index ends an instruction alike as the source's and as the destination's. -/
theorem State.autoIndex_src_eq_dst (u : State) (col : AColumn) (w : Nat) (a : Option AutoIndex) :
    u.autoIndex col w a none = u.autoIndex col w none a := by
  simp only [State.autoIndex, State.step1_none, State.dsCarry_none]
  cases u.dsCarry a w <;> rfl

section
variable (u : State) (z : Zm) (w : Nat)

/-- The auto-index of a ZM operand steps a word of memory and leaves the registers alone (R84). -/
theorem State.step1_zm_regs : (u.step1 (zmAuto z) w).regs = u.regs := by
  cases z <;> rfl

/-- A stepped Z register holds the word moved by the operand size (R76, R84). -/
theorem State.read16_autoIndex_z (col : AColumn) (seg : Seg) (n : BitVec 4) (dir : Dir) (h : u.mem.wf = true) :
    (u.autoIndex col w none (some ⟨seg, .z n, dir⟩)).read16 (Ea.zReg n) = movedBy dir w (u.read16 (Ea.zReg n)) := by
  have hm := u.autoIndex_mem col w none (some ⟨seg, .z n, dir⟩)
  have hr : (u.autoIndex col w none (some ⟨seg, .z n, dir⟩)).read16 (Ea.zReg n) =
      (u.step1 (some ⟨seg, .z n, dir⟩) w).read16 (Ea.zReg n) := by
    simp only [State.read16, State.readByte, hm, State.step1_none]
  rw [hr]
  cases dir <;> exact u.read16_write16_same h _ _

/-- The auto-index of a ZM operand as the statements say it (R82, R84). -/
theorem State.autoIndex_zStepped : ZStepped u (u.autoIndex .star w none (zmAuto z)) z w := by
  cases z with
  | auto seg n dir =>
    refine ⟨u.read16_autoIndex_z w .star seg n dir, State.autoIndex_f .., ?_, ?_⟩
    · rintro rfl
      simp [State.autoIndex, State.dsCarry, zmAuto]
    · rintro rfl hc
      exact State.adjustA_star_a _ _ (by simpa using hc)
  | _ => rfl

end

/-- A word apart from the Z register that the auto-index steps reads as before it (R84). -/
theorem State.read16_autoIndex_zm_other {u : State} {ea : Ea} (z : Zm) (w : Nat)
    (h : ∀ a ∈ ea.bytes16, a ∉ autoBytes (zmAuto z)) :
    (u.autoIndex .star w none (zmAuto z)).read16 ea = u.read16 ea := by
  have kept : ∀ a ∈ ea.bytes16, (u.autoIndex .star w none (zmAuto z)).readByte a = u.readByte a := fun a ha =>
    State.readByte_autoIndex_other _ _ _ _ _ List.not_mem_nil (h a ha)
  rw [State.read16, State.read16, kept _ (by simp [Ea.bytes16]), kept _ (by simp [Ea.bytes16])]

/-- What `ZStepped` says of the state before depends on memory, F and the parameters only. -/
theorem ZStepped.congr {u v t : State} {z : Zm} {w : Nat} (hm : u.mem = v.mem) (hf : u.f = v.f)
    (hp : u.params = v.params) (h : ZStepped u t z w) : ZStepped v t z w := by
  have hr : ∀ ea, u.read16 ea = v.read16 ea := fun ea => by simp only [State.read16, State.readByte, hm]
  cases z with
  | auto seg n dir => simpa only [ZStepped, MemoryCanonical, hm, hf, hp, hr] using h
  | _ => exact h.trans hf

/-- The auto-index of a ZM operand leaves the registers as `v` has them. -/
theorem State.autoIndex_zm_regsAre {u v : State} (z : Zm) (w : Nat) (hr : ∀ r, u.reg16 r = v.reg16 r)
    (hc : u.regs.c = v.regs.c) : RegsAre (u.autoIndex .star w none (zmAuto z)) w none none v := by
  have hregs : (u.autoIndex .star w none (zmAuto z)).regs = u.regs :=
    (State.autoIndex_regs ..).trans (u.step1_zm_regs z w)
  exact ⟨fun r => (State.reg16_congr hregs (State.autoIndex_spHi ..) r).trans (hr r),
    (congrArg Regs.c hregs).trans hc⟩

section
variable (z : Zm) (s : State)

/-- LD A or B from a ZM operand ends with its auto-index (45_load.md R244). -/
theorem exec_ldZm8_eq (r : Acc8) : exec (.ldZm8 r z) s =
    .next ((s.setReg8 (accReg8 r) (s.read8 (s.zmEa z))).autoIndex .star 1 none (zmAuto z)) :=
  congrArg Host.Outcome.next (State.autoIndex_src_eq_dst ..)

/-- LD AB or HL from an even ZM operand ends with its auto-index (45_load.md R246). -/
theorem exec_ldZm16_eq (r : Acc16) (h : AccessAllowed s (s.zmEa z)) : exec (.ldZm16 r z) s =
    .next ((s.setReg16 (accReg16 r) (s.read16 (s.zmEa z))).autoIndex .star 2 none (zmAuto z)) := by
  rw [exec_ldZm16, execLdZm16, State.autoIndex_src_eq_dst]
  exact whenAligned_even _ fun hm _ he => Option.some.inj he ▸ h hm

/-- A store of AB or HL to an even ZM operand (45_load.md R245). -/
theorem exec_stZm16_eq (r : Acc16) (h : AccessAllowed s (s.zmEa z)) : exec (.stZm16 z r) s =
    .next ((s.write16 (s.zmEa z) (s.reg16 (accReg16 r))).autoIndex .star 2 none (zmAuto z)) :=
  whenAligned_even _ fun hm _ he => Option.some.inj he ▸ h hm

end

/-- Settles O42: each of the four is its access and then the auto-index, which `autoIndex_zStepped` describes; what it
stores is `storesOnlyThere`. -/
theorem zmLoads : Obligations.ZmLoads := by
  refine ⟨fun z r s => ⟨?_, ?_⟩, fun z r s hal => ⟨?_, ?_⟩⟩
  · have he := exec_ldZm8_eq z s r
    refine ⟨_, he, by apply dataOnly_of <;> simp, State.autoIndex_zm_regsAre z 1 (fun _ => rfl) rfl,
      storesOnlyThere _ _ _ (by simp [IsRepi]) he, ?_⟩
    exact (State.autoIndex_zStepped _ z 1).congr (by simp) (by simp) (by simp)
  · have he : exec (.stZm8 z r) s = .next _ := rfl
    refine ⟨_, he, by apply dataOnly_of <;> simp, State.autoIndex_zm_regsAre z 1 (fun q => by cases q <;> rfl) rfl,
      storesOnlyThere _ _ _ (by simp [IsRepi]) he, fun hc ha => ?_, State.autoIndex_zStepped _ z 1⟩
    rw [State.readByte_autoIndex_other _ _ _ _ _ List.not_mem_nil ha]
    exact s.readByte_writeByte_same hc _ _
  · have he := exec_ldZm16_eq z s r hal
    refine ⟨_, he, by apply dataOnly_of <;> simp, State.autoIndex_zm_regsAre z 2 (fun _ => rfl) rfl,
      storesOnlyThere _ _ _ (by simp [IsRepi]) he, ?_⟩
    exact (State.autoIndex_zStepped _ z 2).congr (by simp) (by simp) (by simp)
  · have he := exec_stZm16_eq z s r hal
    refine ⟨_, he, by apply dataOnly_of <;> simp, State.autoIndex_zm_regsAre z 2 (fun q => by cases q <;> rfl) rfl,
      storesOnlyThere _ _ _ (by simp [IsRepi]) he, fun hc ha => ?_, State.autoIndex_zStepped _ z 2⟩
    rw [State.read16_autoIndex_zm_other z 2 ha]
    exact s.read16_write16_same hc _ _

end Sys2Proof.Machine

/-! PROOF. The operand fields of the instruction word (spec/30_encoding.md R100 to R107, R110): each field decoder reads
back the code of every operand and accepts no other, and `Obligations.LegalRmCodes`, `Obligations.ConditionTable` and
`Obligations.WrittenWordsDecode`. -/

namespace Sys2Proof

/-! ## Register and condition fields (R104, R110) -/

@[simp] theorem decodeAcc8_code (r : Acc8) : decodeAcc8 r.code = r := by cases r <;> rfl
@[simp] theorem decodeAcc16_code (r : Acc16) : decodeAcc16 r.code = r := by cases r <;> rfl
@[simp] theorem decodeLdReg_ldCode (r : Reg8) : decodeLdReg r.ldCode = r := by cases r <;> rfl
@[simp] theorem decodeCond_code (cond : Cond) : decodeCond cond.code = cond := by cases cond <;> rfl

theorem Acc8.code_lt (r : Acc8) : r.code < 2 := by cases r <;> decide
theorem Acc16.code_lt (r : Acc16) : r.code < 2 := by cases r <;> decide
theorem Reg8.ldCode_lt (r : Reg8) : r.ldCode < 8 := by cases r <;> decide
theorem Cond.code_lt (cond : Cond) : cond.code < 15 := by cases cond <;> decide

/-- No condition has the code of the calls (R111). -/
@[simp] theorem Cond.code_ne_15 (cond : Cond) : cond.code ≠ 15 := cond.code_lt.ne

theorem code_decodeAcc8 {n : Nat} (h : n < 2) : (decodeAcc8 n).code = n := by
  interval_cases n <;> rfl

theorem code_decodeAcc16 {n : Nat} (h : n < 2) : (decodeAcc16 n).code = n := by
  interval_cases n <;> rfl

theorem ldCode_decodeLdReg {n : Nat} (h : n < 8) : (decodeLdReg n).ldCode = n := by
  interval_cases n <;> rfl

theorem code_decodeCond {n : Nat} (h : n < 15) : (decodeCond n).code = n := by
  interval_cases n <;> rfl

/-! ## The RM table (R103, R104) -/

theorem decodeReg8_eq_some {c : Nat} {r : Reg8} : decodeReg8 c = some r ↔ c = r.code := by
  constructor
  · intro h
    unfold decodeReg8 at h
    split at h <;> cases h <;> rfl
  · rintro rfl
    cases r <;> rfl

theorem decodeReg16_eq_some {c : Nat} {r : Reg16} : decodeReg16 c = some r ↔ c = r.code := by
  constructor
  · intro h
    unfold decodeReg16 at h
    split at h <;> cases h <;> rfl
  · rintro rfl
    cases r <;> rfl

theorem decodePseudo_eq_some {c : Nat} {r : Pseudo} : decodePseudo c = some r ↔ c = r.code := by
  constructor
  · intro h
    unfold decodePseudo at h
    split at h <;> cases h <;> rfl
  · rintro rfl
    cases r <;> rfl

/-- A plain mode is read from its own code, with the extension word it takes, if any, next to it. -/
theorem decodePlain_eq_some {c : Nat} {e : Word} {m : PlainMem} :
    decodePlain c e = some m ↔ c = m.code ∧ m.ext <+: [e] := by
  constructor
  · intro h
    unfold decodePlain at h
    split at h <;> cases h <;> simp [PlainMem.code, PlainMem.ext]
  · rintro ⟨rfl, h⟩
    cases m with
    | ab seg | hl seg | ix seg => cases seg <;> rfl
    | dsPair => rfl
    | direct0 a | direct1 a | directDs a | spDisp a =>
      obtain rfl : a = e := by simpa [PlainMem.ext] using h
      rfl
    | ixDisp seg a =>
      obtain rfl : a = e := by simpa [PlainMem.ext] using h
      cases seg <;> rfl

/-- The code of a plain mode is none of an auto-index. -/
theorem decodeMem_plain (m : PlainMem) (e : Word) : decodeMem m.code e = (decodePlain m.code e).map .plain := by
  rcases m with seg | seg | seg | _ | _ | _ | _ | ⟨seg, _⟩ | _ <;> (try cases seg) <;> rfl

theorem decodeMem_eq_some {c : Nat} {e : Word} {m : Mem} :
    decodeMem c e = some m ↔ c = m.code ∧ m.ext <+: [e] := by
  constructor
  · intro h
    unfold decodeMem at h
    split at h
    case h_9 =>
      obtain ⟨q, hq, rfl⟩ := Option.map_eq_some_iff.mp h
      exact decodePlain_eq_some.mp hq
    all_goals
      cases h
      exact ⟨rfl, List.nil_prefix⟩
  · rintro ⟨rfl, h⟩
    cases m with
    | plain q => exact (decodeMem_plain q e).trans (congrArg _ (decodePlain_eq_some.mpr ⟨rfl, h⟩))
    | auto seg ptr dir => cases seg <;> cases ptr <;> cases dir <;> rfl

/-- What holds of the code of every memory mode: it is neither that of the immediate, of port C nor of a register, and
it says how many extension words the mode takes (R100, R103, R105). -/
structure IsMemCode (c extWords : Nat) : Prop where
  pos : 0 < c
  lt : c < 30
  reg8 : decodeReg8 c = none
  reg16 : decodeReg16 c = none
  pseudo : decodePseudo c = none
  count : rmExtCount c = extWords

theorem PlainMem.isMemCode (m : PlainMem) : IsMemCode m.code m.ext.length := by
  rcases m with seg | seg | seg | _ | _ | _ | _ | ⟨seg, _⟩ | _ <;> (try cases seg) <;>
    constructor <;> simp [PlainMem.code, PlainMem.ext, decodeReg8, decodeReg16, decodePseudo, rmExtCount]

theorem Mem.isMemCode (m : Mem) : IsMemCode m.code m.ext.length := by
  cases m with
  | plain m => exact m.isMemCode
  | auto seg ptr dir => cases seg <;> cases ptr <;> cases dir <;> constructor <;> decide

/-! ## The operands (R105) -/

theorem map_eq_ok {α β : Type} {x : Except DecodeError α} {f : α → β} {b : β} :
    x.map f = .ok b ↔ ∃ a, x = .ok a ∧ f a = b := by
  cases x <;> simp [Except.map]

theorem decodeLoc8_eq_ok {c : Nat} {e : Word} {l : Loc8} : decodeLoc8 c e = .ok l ↔ c = l.code ∧ l.ext <+: [e] := by
  constructor
  · intro h
    unfold decodeLoc8 at h
    split at h <;> cases h
    case h_1 hr => exact ⟨decodeReg8_eq_some.mp hr, List.nil_prefix⟩
    case h_2 hm => exact decodeMem_eq_some.mp hm
  · rintro ⟨rfl, h⟩
    cases l with
    | reg r => simp [decodeLoc8, Loc8.code, decodeReg8_eq_some.mpr rfl]
    | mem m => simp [decodeLoc8, Loc8.code, m.isMemCode.reg8, decodeMem_eq_some.mpr ⟨rfl, h⟩]

theorem decodeLoc16_eq_ok {c : Nat} {e : Word} {l : Loc16} :
    decodeLoc16 c e = .ok l ↔ c = l.code ∧ l.ext <+: [e] := by
  constructor
  · intro h
    unfold decodeLoc16 at h
    split at h <;> cases h
    case h_1 hr => exact ⟨decodeReg16_eq_some.mp hr, List.nil_prefix⟩
    case h_2 hm => exact decodeMem_eq_some.mp hm
  · rintro ⟨rfl, h⟩
    cases l with
    | reg r => simp [decodeLoc16, Loc16.code, decodeReg16_eq_some.mpr rfl]
    | mem m => simp [decodeLoc16, Loc16.code, m.isMemCode.reg16, decodeMem_eq_some.mpr ⟨rfl, h⟩]

theorem decodeM24_eq_ok {c : Nat} {e : Word} {m : PlainMem} :
    decodeM24 c e = .ok m ↔ c = m.code ∧ m.ext <+: [e] := by
  rw [← decodePlain_eq_some, decodeM24]
  split <;> simp_all

/-- A destination's code is neither that of the immediate nor of port C. -/
theorem Loc8.code_bounds (l : Loc8) : 0 < l.code ∧ l.code < 32 ∧ l.code ≠ 30 := by
  cases l with
  | reg r => cases r <;> decide
  | mem m =>
    obtain ⟨hpos, hlt, -⟩ := m.isMemCode
    simp only [Loc8.code]
    omega

theorem Loc16.code_bounds (l : Loc16) : 0 < l.code ∧ l.code < 32 ∧ l.code ≠ 30 := by
  cases l with
  | reg r => cases r <;> decide
  | mem m =>
    obtain ⟨hpos, hlt, -⟩ := m.isMemCode
    simp only [Loc16.code]
    omega

theorem Src8.code_bounds (s : Src8) : s.code < 32 ∧ s.code ≠ 30 := by
  cases s with
  | imm v => simp [Src8.code]
  | loc l => exact l.code_bounds.2

theorem Src16.code_bounds (s : Src16) : s.code < 32 ∧ s.code ≠ 30 := by
  cases s with
  | imm v => simp [Src16.code]
  | pseudo q => cases q <;> decide
  | loc l => exact l.code_bounds.2

theorem Loc16.decodePseudo_code (l : Loc16) : decodePseudo l.code = none := by
  cases l with
  | reg r => cases r <;> rfl
  | mem m => exact m.isMemCode.pseudo

/-- The word `e` holds what the source takes from an extension word, as `PAD_NONZERO` has an immediate read (R106). -/
def Src8.StandsIn (p : Machine.Params) (e : Word) : Src8 → Prop
  | .imm v => p.padNonzero.imm8 e = some v
  | .loc l => l.ext <+: [e]

theorem Src8.standsIn_of_ext (p : Machine.Params) {s : Src8} {e : Word} (h : s.ext <+: [e]) : s.StandsIn p e := by
  cases s with
  | imm v =>
    obtain rfl : 0#8 ++ v = e := by simpa [Src8.ext] using h
    exact p.padNonzero.imm8_padded v
  | loc l => exact h

/-- With `PAD_NONZERO` = `illegal` the pad of an immediate is zero too (decision D11). -/
theorem Src8.ext_of_standsIn {p : Machine.Params} (hp : p.padNonzero = .illegal) {s : Src8} {e : Word}
    (h : s.StandsIn p e) : s.ext <+: [e] := by
  cases s with
  | imm v =>
    rw [Src8.StandsIn, hp, Machine.PadNonzero.illegal_imm8_eq_some] at h
    simp [Src8.ext, h]
  | loc l => exact h

theorem decodeSrc8_eq_ok {p : Machine.Params} {c : Nat} {e : Word} {s : Src8} :
    decodeSrc8 p c e = .ok s ↔ c = s.code ∧ s.StandsIn p e := by
  unfold decodeSrc8
  cases s with
  | imm v =>
    split
    · split <;> simp_all [Src8.code, Src8.StandsIn]
    · simp_all [map_eq_ok, Src8.code]
  | loc l =>
    have hpos := l.code_bounds.1.ne'
    split
    · split <;> simp_all [Src8.code, eq_comm]
    · simp_all [map_eq_ok, Src8.code, Src8.StandsIn, decodeLoc8_eq_ok]

theorem decodeSrc16_eq_ok {c : Nat} {e : Word} {s : Src16} :
    decodeSrc16 c e = .ok s ↔ c = s.code ∧ s.ext <+: [e] := by
  unfold decodeSrc16
  cases s with
  | imm v =>
    split
    · simp_all [Src16.code, Src16.ext, eq_comm]
    · split <;> simp_all [map_eq_ok, Src16.code]
  | pseudo q =>
    split
    · cases q <;> simp_all [Src16.code, Pseudo.code]
    · split <;> simp_all [map_eq_ok, Src16.code, Src16.ext, ← decodePseudo_eq_some]
  | loc l =>
    have hpos := l.code_bounds.1.ne'
    have hreg := l.decodePseudo_code
    split
    · simp_all [Src16.code, eq_comm]
    · split
      · simp_all only [Src16.code, reduceCtorEq, Except.ok.injEq, false_iff, not_and]
        rintro rfl
        simp_all
      · simp_all [map_eq_ok, Src16.code, Src16.ext, decodeLoc16_eq_ok]

/-! ## Which codes are legal does not depend on the extension word -/

theorem decodePlain_isSome (c : Nat) (e : Word) : (decodePlain c e).isSome = (decodePlain c 0).isSome := by
  unfold decodePlain
  split <;> rfl

theorem decodeMem_isSome (c : Nat) (e : Word) : (decodeMem c e).isSome = (decodeMem c 0).isSome := by
  unfold decodeMem
  split
  case h_9 => rw [Option.isSome_map, Option.isSome_map, decodePlain_isSome]
  all_goals rfl

theorem decodeLoc8_legal (c : Nat) (e : Word) :
    (∃ l, decodeLoc8 c e = .ok l) ↔ (decodeReg8 c).isSome ∨ (decodeMem c 0).isSome := by
  rw [← decodeMem_isSome c e, decodeLoc8]
  split <;> simp_all

theorem decodeLoc16_legal (c : Nat) (e : Word) :
    (∃ l, decodeLoc16 c e = .ok l) ↔ (decodeReg16 c).isSome ∨ (decodeMem c 0).isSome := by
  rw [← decodeMem_isSome c e, decodeLoc16]
  split <;> simp_all

/-- An immediate whose pad is zero is legal, whatever `PAD_NONZERO` says (R106). -/
theorem Machine.PadNonzero.imm8_of_zero_pad (mode : Machine.PadNonzero) (e : Word) :
    ∃ v, mode.imm8 (e &&& 0xFF) = some v := by
  have mask : ∀ j < 8, (0xFF : Word).getLsbD (8 + j) = false := by decide
  have hpad : (e &&& 0xFF).extractLsb' 8 8 = 0 := by
    apply BitVec.eq_of_getLsbD_eq
    intro j hj
    rw [BitVec.getLsbD_extractLsb', BitVec.getLsbD_and, mask j hj]
    simp
  cases mode with
  | illegal => exact ⟨_, if_pos hpad⟩
  | ignored => exact ⟨_, rfl⟩

theorem decodeSrc8_legal (p : Machine.Params) (c : Nat) (e : Word) :
    (∃ s, decodeSrc8 p c (e &&& 0xFF) = .ok s) ↔ c = 0 ∨ (decodeReg8 c).isSome ∨ (decodeMem c 0).isSome := by
  obtain ⟨v, hv⟩ := p.padNonzero.imm8_of_zero_pad e
  rw [← decodeLoc8_legal c (e &&& 0xFF), decodeSrc8]
  split
  · simp_all
  · simp_all [map_eq_ok]

theorem decodeSrc16_legal (c : Nat) (e : Word) :
    (∃ s, decodeSrc16 c e = .ok s) ↔
      c = 0 ∨ (decodePseudo c).isSome ∨ (decodeReg16 c).isSome ∨ (decodeMem c 0).isSome := by
  rw [← decodeLoc16_legal c e, decodeSrc16]
  split
  · simp_all
  · split <;> simp_all [map_eq_ok]

theorem decodeM24_legal (c : Nat) (e : Word) : (∃ m, decodeM24 c e = .ok m) ↔ (decodePlain c 0).isSome := by
  rw [← decodePlain_isSome c e, decodeM24]
  split <;> simp_all

/-- Settles O5: each position's legal codes are those of the RM table's columns it takes, whatever the extension word,
so the 32 codes remain to be looked at. -/
theorem legalRmCodes : Obligations.LegalRmCodes := by
  intro p code ext
  rw [decodeLoc8_legal, decodeSrc8_legal, decodeLoc16_legal, decodeSrc16_legal, decodeM24_legal]
  revert code
  decide

/-- Settles O6: `decodeCond` numbers the conditions as the table does, and `Flags.cond` is the table's last column. -/
theorem conditionTable : Obligations.ConditionTable := fun _ =>
  ⟨rfl, rfl, rfl, rfl, rfl, rfl, rfl, rfl, rfl, rfl, rfl, rfl, rfl, rfl, rfl⟩

/-- Settles O2: the decoder runs on each of the fourteen words. -/
theorem writtenWordsDecode : Obligations.WrittenWordsDecode :=
  ⟨rfl, rfl, rfl, rfl, rfl, rfl, rfl, rfl, rfl, rfl, rfl, rfl, rfl, rfl⟩

end Sys2Proof

/-! PROOF. The bit fields of a word given as a sum of its parts, the ZM specifier and the extension words (spec/
30_encoding.md R10, R100, R101, R107): the facts both directions of the encoding use. -/

namespace Sys2Proof

/-! ## Fields of a word -/

theorem field_lt (w : Word) (hi lo : Nat) : field w hi lo < 2 ^ (hi + 1 - lo) := Nat.mod_lt _ (by positivity)

/-- A field of a number: what is above bit 15 does not reach it. -/
@[simp] theorem field_ofNat {n hi lo : Nat} (hh : hi < 16) (hl : lo ≤ hi) :
    field (BitVec.ofNat 16 n) hi lo = n / 2 ^ lo % 2 ^ (hi + 1 - lo) := by
  have e : 2 ^ 16 = 2 ^ lo * 2 ^ (16 - lo) := by rw [← Nat.pow_add, Nat.add_sub_of_le (by omega)]
  rw [field, BitVec.toNat_ofNat, e, Nat.mod_mul_right_div_self]
  exact Nat.mod_mod_of_dvd _ (Nat.pow_dvd_pow 2 (by omega))

section
variable {b x k m : Nat}

/-- A part below a field carries nothing into it. -/
@[simp] theorem div_drop_right (h : b % k + x < k) : (b + x) / k = b / k := by
  have hk : 0 < k := by omega
  rw [Nat.add_div hk, Nat.div_eq_of_lt (a := x) (by omega), Nat.mod_eq_of_lt (a := x) (by omega), if_neg (by omega)]
  rfl

/-- A part above a field does not reach it. -/
theorem digit_drop_left (hk : 0 < k) (h : k * m ∣ b) : (b + x) / k % m = x / k % m := by
  obtain ⟨q, rfl⟩ := h
  rw [Nat.mul_assoc, Nat.mul_add_div hk, Nat.mul_add_mod]

@[simp] theorem digit_drop_right (hk : 0 < k) (h : k * m ∣ x) : (b + x) / k % m = b / k % m :=
  Nat.add_comm b x ▸ digit_drop_left hk h

@[simp] theorem mod_drop_left (h : m ∣ b) : (b + x) % m = x % m := by
  obtain ⟨q, rfl⟩ := h
  exact Nat.mul_add_mod ..

end

/-- A bit vector is read back from its number. -/
theorem ofNat_toNat_same {n : Nat} (x : BitVec n) : BitVec.ofNat n x.toNat = x := by simp

/-! ## The ZM specifier (R107) -/

@[simp] theorem decodeSeg_code (seg : Seg) : decodeSeg seg.code = seg := by cases seg <;> rfl
@[simp] theorem decodeDir_code (dir : Dir) : decodeDir dir.code = dir := by cases dir <;> rfl

theorem Seg.code_lt (seg : Seg) : seg.code < 2 := by cases seg <;> decide
theorem Dir.code_lt (dir : Dir) : dir.code < 2 := by cases dir <;> decide

theorem code_decodeSeg {n : Nat} (h : n < 2) : (decodeSeg n).code = n := by interval_cases n <;> rfl
theorem code_decodeDir {n : Nat} (h : n < 2) : (decodeDir n).code = n := by interval_cases n <;> rfl

theorem Zm.code_lt (z : Zm) : z.code < 256 := by
  cases z with
  | auto seg n dir => cases seg <;> cases dir <;> simp only [Zm.code, Seg.code, Dir.code] <;> omega
  | plusIx seg n | ptr seg n => cases seg <;> simp only [Zm.code, Seg.code] <;> omega
  | ixDisp seg u => cases seg <;> simp only [Zm.code] <;> omega
  | spDisp u | low n | high n => simp only [Zm.code]; omega

/-- The ZM operand depends on the low byte of the word only. -/
theorem decodeZm_drop {b c : Nat} (hb : 256 ∣ b) :
    decodeZm (BitVec.ofNat 16 (b + c)) = decodeZm (BitVec.ofNat 16 c) := by
  have low : ∀ hi < 8, ∀ lo ≤ hi, field (BitVec.ofNat 16 (b + c)) hi lo = field (BitVec.ofNat 16 c) hi lo := by
    intro hi hhi lo hlo
    rw [field_ofNat (by omega) hlo, field_ofNat (by omega) hlo]
    refine digit_drop_left (by positivity) (dvd_trans ?_ hb)
    rw [← Nat.pow_add]
    exact Nat.pow_dvd_pow 2 (n := 8) (by omega)
  simp (disch := omega) only [decodeZm, low]

theorem decodeZm_code (z : Zm) : decodeZm (BitVec.ofNat 16 z.code) = z := by
  cases z with
  | auto seg n dir =>
    have := seg.code_lt
    have := dir.code_lt
    simp (disch := omega) [decodeZm, Zm.code, Nat.add_mul_div_right, Nat.div_eq_of_lt, Nat.mod_eq_of_lt]
  | plusIx seg n | ptr seg n =>
    have := seg.code_lt
    simp (disch := omega) [decodeZm, Zm.code, Nat.add_mul_div_right, Nat.div_eq_of_lt, Nat.mod_eq_of_lt]
  | ixDisp seg u => cases seg <;> simp (disch := omega) [decodeZm, Zm.code, Nat.mod_eq_of_lt]
  | spDisp u => simp (disch := omega) [decodeZm, Zm.code, Nat.mod_eq_of_lt]
  | low n | high n => simp (disch := omega) [decodeZm, Zm.code, Nat.add_mul_div_right, Nat.mod_eq_of_lt]

/-- The ZM operand read from a word has the code that stands in its low byte. -/
theorem code_decodeZm (w : Word) : (decodeZm w).code = field w 7 0 := by
  have hseg := code_decodeSeg (field_lt w 0 0)
  have hdir := code_decodeDir (field_lt w 5 5)
  have h5 : field w 5 5 < 2 := field_lt w 5 5
  have h0 : field w 0 0 < 2 := field_lt w 0 0
  unfold decodeZm
  split
  · simp only [Zm.code, hseg, hdir, BitVec.toNat_ofNat, field] at *
    omega
  · split <;> simp only [Zm.code, hseg, BitVec.toNat_ofNat, field] at * <;> omega
  · split <;> simp only [Zm.code, BitVec.toNat_ofNat, field] at * <;> omega
  · next hne0 hne1 hne2 =>
    have h3 : field w 7 6 = 3 := by
      have hne : field w 7 6 ≠ 0 ∧ field w 7 6 ≠ 1 ∧ field w 7 6 ≠ 2 := ⟨hne0, hne1, hne2⟩
      have := field_lt w 7 6
      omega
    clear hne0 hne1 hne2
    split
    · simp only [Zm.code, BitVec.toNat_ofNat, field] at *
      omega
    · split <;> simp only [Zm.code, BitVec.toNat_ofNat, field] at * <;> omega

/-! ## Extension words (R100, R101) -/

theorem ext_pair_iff {l : List Word} {e1 e2 : Word} (hl : l.length ≤ 1) : l <+: [e1, e2] ↔ l <+: [e1] := by
  rcases l with _ | ⟨a, _ | _⟩
  · simp
  · simp
  · simp at hl

theorem Src8.rmExtCount_code (s : Src8) : rmExtCount s.code = s.ext.length := by
  rcases s with v | ⟨r | m⟩
  · rfl
  · cases r <;> rfl
  · exact m.isMemCode.count

theorem Src16.rmExtCount_code (s : Src16) : rmExtCount s.code = s.ext.length := by
  rcases s with v | q | ⟨r | m⟩
  · rfl
  · cases q <;> rfl
  · cases r <;> rfl
  · exact m.isMemCode.count

/-- Of two operands the right one, whose code is `c`, has its extension word first (R101). -/
theorem append_ext_iff {a b : List Word} {c : Nat} {e1 e2 : Word} (ha : a.length ≤ 1) (hb : b.length ≤ 1)
    (hc : rmExtCount c = a.length) : a ++ b <+: [e1, e2] ↔ a <+: [e1] ∧ b <+: [leftExt c e1 e2] := by
  rcases a with _ | ⟨x, _ | _⟩
  · simp [leftExt, hc, ext_pair_iff hb]
  · simp [leftExt, hc]
  · simp at ha

/-- An instruction has at most two extension words (R100). -/
theorem Instr.ext_length_le (i : Instr) (p : Machine.Params) : (i.ext p).length ≤ 2 := by
  have loc8 := fun d : Loc8 => Nat.le_succ_of_le d.ext_length_le
  have loc16 := fun d : Loc16 => Nat.le_succ_of_le d.ext_length_le
  have src8 := fun s : Src8 => Nat.le_succ_of_le s.ext_length_le
  have src16 := fun s : Src16 => Nat.le_succ_of_le s.ext_length_le
  have m24 := fun m : PlainMem => Nat.le_succ_of_le m.ext_length_le
  cases i with
  | ld d s => exact append_length_le s.ext_length_le d.ext_length_le
  | ldw d s => exact append_length_le s.ext_length_le d.ext_length_le
  | ldpca d v | ldixa d v | ldspa d v => exact Nat.succ_le_succ d.ext_length_le
  | _ => simp [Instr.ext, loc8, loc16, src8, src16, m24]

end Sys2Proof

/-! PROOF. The decoder reads back what the encoder writes (spec/30_encoding.md R100, R101, R106, R113 to R119), and
`Obligations.DecodeReadsEncode`. The word of an instruction is a sum of its fields, so the decoder's branch and operands
come from the sum by the rules about `field`; what remains of each row is its operand's decoder. -/

namespace Sys2Proof

/-- The decoder reads `i` from its word and its extension words, whatever follows them. -/
def RoundTrips (p : Machine.Params) (i : Instr) : Prop :=
  ∀ e1 e2, i.ext p <+: [e1, e2] → decode p (BitVec.ofNat 16 i.opcode) e1 e2 = .ok i

section
variable {p : Machine.Params}

/-! ## Instructions with one operand that can take an extension word -/

theorem RoundTrips.operand {α : Type} {f : α → Instr} {a : α} {x : List Word}
    {dec : Word → Except DecodeError α} (hlen : x.length ≤ 1) (hdec : ∀ e, x <+: [e] → dec e = .ok a)
    (hext : (f a).ext p = x)
    (h : ∀ e1 e2, decode p (BitVec.ofNat 16 (f a).opcode) e1 e2 = (dec e1).map f) : RoundTrips p (f a) :=
  fun e1 e2 he => (h e1 e2).trans (map_eq_ok.mpr ⟨a, hdec e1 ((ext_pair_iff hlen).mp (hext ▸ he)), rfl⟩)

theorem RoundTrips.loc8 {f : Loc8 → Instr} (d : Loc8) (hext : (f d).ext p = d.ext)
    (h : ∀ e1 e2, decode p (BitVec.ofNat 16 (f d).opcode) e1 e2 = (decodeLoc8 d.code e1).map f) :
    RoundTrips p (f d) :=
  .operand d.ext_length_le (fun _ he => decodeLoc8_eq_ok.mpr ⟨rfl, he⟩) hext h

theorem RoundTrips.loc16 {f : Loc16 → Instr} (d : Loc16) (hext : (f d).ext p = d.ext)
    (h : ∀ e1 e2, decode p (BitVec.ofNat 16 (f d).opcode) e1 e2 = (decodeLoc16 d.code e1).map f) :
    RoundTrips p (f d) :=
  .operand d.ext_length_le (fun _ he => decodeLoc16_eq_ok.mpr ⟨rfl, he⟩) hext h

theorem RoundTrips.src8 {f : Src8 → Instr} (s : Src8) (hext : (f s).ext p = s.ext)
    (h : ∀ e1 e2, decode p (BitVec.ofNat 16 (f s).opcode) e1 e2 = (decodeSrc8 p s.code e1).map f) :
    RoundTrips p (f s) :=
  .operand s.ext_length_le (fun _ he => decodeSrc8_eq_ok.mpr ⟨rfl, s.standsIn_of_ext p he⟩) hext h

theorem RoundTrips.src16 {f : Src16 → Instr} (s : Src16) (hext : (f s).ext p = s.ext)
    (h : ∀ e1 e2, decode p (BitVec.ofNat 16 (f s).opcode) e1 e2 = (decodeSrc16 s.code e1).map f) :
    RoundTrips p (f s) :=
  .operand s.ext_length_le (fun _ he => decodeSrc16_eq_ok.mpr ⟨rfl, he⟩) hext h

theorem RoundTrips.m24 {f : PlainMem → Instr} (m : PlainMem) (hext : (f m).ext p = m.ext)
    (h : ∀ e1 e2, decode p (BitVec.ofNat 16 (f m).opcode) e1 e2 = (decodeM24 m.code e1).map f) :
    RoundTrips p (f m) :=
  .operand m.ext_length_le (fun _ he => decodeM24_eq_ok.mpr ⟨rfl, he⟩) hext h

/-- LDPCA, LDIXA and LDSPA have their own word before the destination's. -/
theorem RoundTrips.wordLoc16 {f : Loc16 → Word → Instr} (d : Loc16) (v : Word) (hext : (f d v).ext p = v :: d.ext)
    (h : ∀ e1 e2, decode p (BitVec.ofNat 16 (f d v).opcode) e1 e2 = (decodeLoc16 d.code e2).map (f · e1)) :
    RoundTrips p (f d v) := fun e1 e2 he => by
  obtain ⟨rfl, hd⟩ := List.cons_prefix_cons.mp (hext ▸ he)
  exact (h v e2).trans (map_eq_ok.mpr ⟨d, decodeLoc16_eq_ok.mpr ⟨rfl, hd⟩, rfl⟩)

/-! ## Group 0000: NOP, EXS, DJNZ (R113) -/

/-- Each bit of the word of EXS says whether its register is in the list. -/
theorem RegList.code_bits (l : RegList) :
    l.code < 2048 ∧ l.code / 1024 % 2 = l.f.toNat ∧ l.code / 512 % 2 = 0 ∧ l.code / 256 % 2 = l.c.toNat ∧
    l.code / 128 % 2 = l.d.toNat ∧ l.code / 64 % 2 = l.s.toNat ∧ l.code / 32 % 2 = l.i.toNat ∧
    l.code / 16 % 2 = l.x.toNat ∧ l.code / 8 % 2 = l.h.toNat ∧ l.code / 4 % 2 = l.l.toNat ∧
    l.code / 2 % 2 = l.a.toNat ∧ l.code % 2 = l.b.toNat := by
  have hf := l.f.toNat_le
  have hc := l.c.toNat_le
  have hd := l.d.toNat_le
  have hs := l.s.toNat_le
  have hi := l.i.toNat_le
  have hx := l.x.toNat_le
  have hh := l.h.toNat_le
  have hl := l.l.toNat_le
  have ha := l.a.toNat_le
  have hb := l.b.toNat_le
  unfold RegList.code
  omega

theorem RegList.code_ne_zero {l : RegList} (h : l ≠ RegList.empty) : l.code ≠ 0 := by
  contrapose! h
  have bits := l.code_bits
  simp only [h, Nat.zero_div, Nat.zero_mod, eq_comm (a := 0), Bool.toNat_eq_zero] at bits
  obtain ⟨-, hf, -, hc, hd, hs, hi, hx, hh, hl, ha, hb⟩ := bits
  rcases l
  simp_all [RegList.empty]

theorem roundTrips_exs {l : RegList} (h : l ≠ RegList.empty) : RoundTrips p (.exs l) := fun e1 e2 _ => by
  obtain ⟨hlt, hf, h9, hc, hd, hs, hi, hx, hh, hl, ha, hb⟩ := l.code_bits
  have h0 : BitVec.ofNat 16 l.code ≠ 0#16 := fun e => RegList.code_ne_zero h <| by
    have hn := congrArg BitVec.toNat e
    simp only [BitVec.toNat_ofNat] at hn
    omega
  delta Instr.opcode
  simp (disch := omega) [decode, decodeGroup0, Nat.div_eq_of_lt, h9, h0, hf, hc, hd, hs, hi, hx, hh, hl, ha, hb]

theorem roundTrips_djnz8 (r : Acc8) (v : Byte) : RoundTrips p (.djnz8 r v) := fun e1 e2 _ => by
  have := r.code_lt
  delta Instr.opcode
  simp (disch := omega) [decode, decodeGroup0, Nat.add_mul_div_right, Nat.mod_eq_of_lt]

theorem roundTrips_djnz16 (r : Acc16) (v : Byte) : RoundTrips p (.djnz16 r v) := fun e1 e2 _ => by
  have := r.code_lt
  delta Instr.opcode
  simp (disch := omega) [decode, decodeGroup0, Nat.add_mul_div_right, Nat.mod_eq_of_lt]

/-! ## Group 0001: system, ports, multiply and divide, masks (R114) -/

theorem roundTrips_repiImm (n : BitVec 4) : RoundTrips p (.repiImm n) := fun e1 e2 _ => by
  delta Instr.opcode
  simp (disch := omega) [decode, decodeGroup1, decodeGroup1From, decodeSystem, Nat.mod_eq_of_lt]

theorem roundTrips_repiReg (r : RepReg) : RoundTrips p (.repiReg r) := fun _ _ _ => by
  cases r <;> rfl

theorem roundTrips_wordLoc16 (d : Loc16) (v : Word) :
    ∀ f ∈ [Instr.ldpca, .ldixa, .ldspa], RoundTrips p (f d v) := by
  have := d.code_bounds
  intro f hf
  refine .wordLoc16 d v ?_ fun e1 e2 => ?_
  · fin_cases hf <;> rfl
  · delta Instr.opcode
    fin_cases hf <;> simp (disch := omega) [decode, decodeGroup1, decodeGroup1From, Nat.mod_eq_of_lt]

theorem roundTrips_group1From (d : Loc8) :
    ∀ f ∈ [Instr.ldFromPortInc, .ldFromF, .ldFromPort, .ldFromC, .ldFromPortDec, .ldFromE], RoundTrips p (f d) := by
  have := d.code_bounds
  intro f hf
  refine .loc8 d ?_ fun e1 e2 => ?_
  · fin_cases hf <;> rfl
  · delta Instr.opcode
    fin_cases hf <;> simp (disch := omega) [decode, decodeGroup1, decodeGroup1From, Nat.mod_eq_of_lt]

theorem roundTrips_group1To (s : Src8) :
    ∀ f ∈ [Instr.mulu, .divu, .ldPortInc, .ldF, .ldPort, .ldC, .ldPortDec, .ldE], RoundTrips p (f s) := by
  have := s.code_bounds
  intro f hf
  refine .src8 s ?_ fun e1 e2 => ?_
  · fin_cases hf <;> rfl
  · delta Instr.opcode
    fin_cases hf <;> simp (disch := omega) [decode, decodeGroup1, decodeGroup1To, Nat.mod_eq_of_lt]

theorem roundTrips_mulsw_divsw (s : Src16) : ∀ f ∈ [Instr.mulsw, .divsw], RoundTrips p (f s) := by
  have := s.code_bounds
  intro f hf
  refine .src16 s ?_ fun e1 e2 => ?_
  · fin_cases hf <;> rfl
  · delta Instr.opcode
    fin_cases hf <;> simp (disch := omega) [decode, decodeGroup1, decodeGroup1To, Nat.mod_eq_of_lt]

theorem roundTrips_mask (m : Byte) : ∀ f ∈ [Instr.resf, .di, .setf, .ei], RoundTrips p (f m) := by
  intro f hf e1 e2 _
  delta Instr.opcode
  fin_cases hf <;> simp (disch := omega) [decode, decodeGroup1, Nat.mod_eq_of_lt]

/-! ## Group 0010: INC, DEC and the unary operations (R115) -/

theorem roundTrips_countByte (n : BitVec 3) (d : Loc8) : ∀ f ∈ [Instr.inc, .dec], RoundTrips p (f n d) := by
  have := d.code_bounds
  intro f hf
  refine .loc8 d ?_ fun e1 e2 => ?_
  · fin_cases hf <;> rfl
  · delta Instr.opcode
    fin_cases hf <;> simp (disch := omega) [decode, decodeGroup2Byte, Nat.add_mul_div_right, Nat.mod_eq_of_lt]

theorem roundTrips_unaryByte (d : Loc8) : ∀ f ∈ [Instr.neg, .cpl, .ngc, .clr], RoundTrips p (f d) := by
  have := d.code_bounds
  intro f hf
  refine .loc8 d ?_ fun e1 e2 => ?_
  · fin_cases hf <;> rfl
  · delta Instr.opcode
    fin_cases hf <;> simp (disch := omega) [decode, decodeGroup2Byte, Nat.mod_eq_of_lt]

theorem roundTrips_countWord (n : BitVec 3) (d : Loc16) : ∀ f ∈ [Instr.incw, .decw], RoundTrips p (f n d) := by
  have := d.code_bounds
  intro f hf
  refine .loc16 d ?_ fun e1 e2 => ?_
  · fin_cases hf <;> rfl
  · delta Instr.opcode
    fin_cases hf <;> simp (disch := omega) [decode, decodeGroup2Word, Nat.add_mul_div_right, Nat.mod_eq_of_lt]

theorem roundTrips_unaryWord (d : Loc16) : ∀ f ∈ [Instr.negw, .cplw, .ngcw, .clrw], RoundTrips p (f d) := by
  have := d.code_bounds
  intro f hf
  refine .loc16 d ?_ fun e1 e2 => ?_
  · fin_cases hf <;> rfl
  · delta Instr.opcode
    fin_cases hf <;> simp (disch := omega) [decode, decodeGroup2Word, Nat.mod_eq_of_lt]

/-! ## Group 0011: shifts, BIT, RES, SET (R116) -/

theorem roundTrips_shiftByte (d : Loc8) :
    ∀ f ∈ [Instr.rlc, .rrc, .rl, .rr, .sla, .sra, .swap, .srl], RoundTrips p (f d) := by
  have := d.code_bounds
  intro f hf
  refine .loc8 d ?_ fun e1 e2 => ?_
  · fin_cases hf <;> rfl
  · delta Instr.opcode
    fin_cases hf <;> simp (disch := omega) [decode, decodeGroup3, decodeShiftByte, Nat.mod_eq_of_lt]

theorem roundTrips_shiftWord (d : Loc16) :
    ∀ f ∈ [Instr.rlcw, .rrcw, .rlw, .rrw, .slaw, .sraw, .swapw, .srlw], RoundTrips p (f d) := by
  have := d.code_bounds
  intro f hf
  refine .loc16 d ?_ fun e1 e2 => ?_
  · fin_cases hf <;> rfl
  · delta Instr.opcode
    fin_cases hf <;> simp (disch := omega) [decode, decodeGroup3, decodeShiftWord, Nat.mod_eq_of_lt]

theorem roundTrips_bitImmPort (b : BitVec 3) :
    ∀ f ∈ [Instr.bitImmPort, .resImmPort, .setImmPort], RoundTrips p (f b) := by
  intro f hf e1 e2 _
  delta Instr.opcode
  fin_cases hf <;> simp (disch := omega) [decode, decodeGroup3, decodeBitImm, Nat.add_mul_div_right, Nat.mod_eq_of_lt]

theorem roundTrips_bitImm (b : BitVec 3) (s : Src8) : RoundTrips p (.bitImm b s) := .src8 s rfl fun e1 e2 => by
  have := s.code_bounds
  delta Instr.opcode
  simp (disch := omega) [decode, decodeGroup3, decodeBitImm, Nat.add_mul_div_right,
      Nat.mod_eq_of_lt, this]

theorem roundTrips_bitImmDst (b : BitVec 3) (d : Loc8) : ∀ f ∈ [Instr.resImm, .setImm], RoundTrips p (f b d) := by
  have := d.code_bounds
  intro f hf
  refine .loc8 d ?_ fun e1 e2 => ?_
  · fin_cases hf <;> rfl
  · delta Instr.opcode
    fin_cases hf <;> simp (disch := omega) [decode, decodeGroup3, decodeBitImm, Nat.add_mul_div_right,
      Nat.mod_eq_of_lt, this]

theorem roundTrips_bitAccPort (r : Acc8) :
    ∀ f ∈ [Instr.bitAccPort, .resAccPort, .setAccPort], RoundTrips p (f r) := by
  intro f hf e1 e2 _
  fin_cases hf <;> cases r <;> rfl

theorem roundTrips_bitAcc (r : Acc8) (s : Src8) : RoundTrips p (.bitAcc r s) := .src8 s rfl fun e1 e2 => by
  have := s.code_bounds
  have := r.code_lt
  delta Instr.opcode
  simp (disch := omega) [decode, decodeGroup3, decodeBitAcc, Nat.add_mul_div_right,
      Nat.mod_eq_of_lt, *]

theorem roundTrips_bitAccDst (r : Acc8) (d : Loc8) : ∀ f ∈ [Instr.resAcc, .setAcc], RoundTrips p (f r d) := by
  have := d.code_bounds
  have := r.code_lt
  intro f hf
  refine .loc8 d ?_ fun e1 e2 => ?_
  · fin_cases hf <;> rfl
  · delta Instr.opcode
    fin_cases hf <;> simp (disch := omega) [decode, decodeGroup3, decodeBitAcc, Nat.add_mul_div_right,
      Nat.mod_eq_of_lt, *]

/-! ## Groups 0100 to 0111: the stack and the loads (R117) -/

theorem roundTrips_cImm (v : Byte) : ∀ f ∈ [Instr.ldCImm, .addCImm], RoundTrips p (f v) := by
  intro f hf e1 e2 _
  delta Instr.opcode
  fin_cases hf <;> simp (disch := omega) [decode, decodeGroup4, Nat.mod_eq_of_lt]

theorem Loc16.code_ne_31 {d : Loc16} (h : (Instr.pop d).wf = true) : d.code ≠ 31 := by
  simp only [Instr.wf, decide_eq_true_eq] at h
  cases d with
  | reg r => cases r <;> simp_all [Loc16.code, Reg16.code]
  | mem m =>
    have := m.isMemCode.lt
    simp only [Loc16.code]
    omega

theorem Src16.code_ne_31 {s : Src16} (h : (Instr.push s).wf = true) : s.code ≠ 31 := by
  simp only [Instr.wf, decide_eq_true_eq] at h
  cases s with
  | imm v => simp [Src16.code]
  | pseudo q => cases q <;> decide
  | loc l => exact l.code_ne_31 (by simpa [Instr.wf] using h)

theorem roundTrips_pop {d : Loc16} (h : (Instr.pop d).wf = true) : RoundTrips p (.pop d) := .loc16 d rfl fun e1 e2 => by
  have := d.code_bounds
  have := d.code_ne_31 h
  delta Instr.opcode
  simp (disch := omega) [decode, decodeGroup4, decodeStack, Nat.mod_eq_of_lt]

theorem roundTrips_push {s : Src16} (h : (Instr.push s).wf = true) : RoundTrips p (.push s) :=
  .src16 s rfl fun e1 e2 => by
    have := s.code_bounds
    have := s.code_ne_31 h
    delta Instr.opcode
    simp (disch := omega) [decode, decodeGroup4, decodeStack, Nat.mod_eq_of_lt]

theorem roundTrips_zm8 (z : Zm) (r : Acc8) : RoundTrips p (.stZm8 z r) ∧ RoundTrips p (.ldZm8 r z) := by
  have := z.code_lt
  have := r.code_lt
  constructor <;> intro e1 e2 _ <;> delta Instr.opcode <;> simp (disch := omega) [decode, decodeGroup5, decodeZm_drop,
    decodeZm_code, Nat.add_mul_div_right, Nat.mod_eq_of_lt]

theorem roundTrips_zm16 {z : Zm} (r : Acc16) (h : z.wf16 = true) :
    RoundTrips p (.stZm16 z r) ∧ RoundTrips p (.ldZm16 r z) := by
  have := z.code_lt
  have := r.code_lt
  constructor <;> intro e1 e2 _ <;> delta Instr.opcode <;> simp (disch := omega) [decode, decodeGroup5, decodeZm16,
    decodeZm_drop, decodeZm_code, h, Except.map, Nat.add_mul_div_right, Nat.mod_eq_of_lt]

theorem roundTrips_ld (d : Loc8) (s : Src8) : RoundTrips p (.ld d s) := fun e1 e2 h => by
  obtain ⟨hs, hd⟩ := (append_ext_iff s.ext_length_le d.ext_length_le s.rmExtCount_code).mp h
  have ps := decodeSrc8_eq_ok.mpr ⟨rfl, s.standsIn_of_ext p hs⟩
  have pd := decodeLoc8_eq_ok.mpr ⟨rfl, hd⟩
  have := s.code_bounds
  have := d.code_bounds
  delta Instr.opcode
  simp (disch := omega) [decode, decodeGroup6, Nat.add_mul_div_right, Nat.mod_eq_of_lt, ps, pd]

theorem roundTrips_ldw (d : Loc16) (s : Src16) : RoundTrips p (.ldw d s) := fun e1 e2 h => by
  obtain ⟨hs, hd⟩ := (append_ext_iff s.ext_length_le d.ext_length_le s.rmExtCount_code).mp h
  have ps := decodeSrc16_eq_ok.mpr ⟨rfl, hs⟩
  have pd := decodeLoc16_eq_ok.mpr ⟨rfl, hd⟩
  have := s.code_bounds
  have := d.code_bounds
  delta Instr.opcode
  simp (disch := omega) [decode, decodeGroup6, Nat.add_mul_div_right, Nat.mod_eq_of_lt, ps, pd]

theorem roundTrips_ldRegImm (r : Reg8) (v : Byte) : RoundTrips p (.ldRegImm r v) := fun e1 e2 _ => by
  have := r.ldCode_lt
  delta Instr.opcode
  simp (disch := omega) [decode, decodeGroup7, Nat.add_mul_div_right, Nat.mod_eq_of_lt]

/-! ## The ALU group (R118) -/

theorem roundTrips_aluImm8 (r : Acc8) (v : Byte) :
    ∀ f ∈ [Instr.addImm8, .adcImm8, .subImm8, .sbcImm8, .andImm8, .xorImm8, .orImm8, .cpImm8],
      RoundTrips p (f r v) := by
  have := r.code_lt
  intro f hf e1 e2 _
  delta Instr.opcode
  fin_cases hf <;> simp (disch := omega) [decode, decodeAlu, aluImm8, Nat.add_mul_div_right, Nat.mod_eq_of_lt]

theorem roundTrips_aluSrc8 (r : Acc8) (s : Src8) :
    ∀ f ∈ [Instr.addSrc8, .adcSrc8, .subSrc8, .sbcSrc8, .andSrc8, .xorSrc8, .orSrc8, .cpSrc8],
      RoundTrips p (f r s) := by
  have := s.code_bounds
  have := r.code_lt
  intro f hf
  refine .src8 s ?_ fun e1 e2 => ?_
  · fin_cases hf <;> rfl
  · delta Instr.opcode
    fin_cases hf <;> simp (disch := omega) [decode, decodeAlu, Nat.add_mul_div_right, Nat.mod_eq_of_lt] <;> rfl

theorem roundTrips_aluDst8 (d : Loc8) (r : Acc8) :
    ∀ f ∈ [Instr.addDst8, .adcDst8, .subDst8, .sbcDst8, .andDst8, .xorDst8, .orDst8, .cpDst8],
      RoundTrips p (f d r) := by
  have := d.code_bounds
  have := r.code_lt
  intro f hf
  refine .loc8 (f := (f · r)) d ?_ fun e1 e2 => ?_
  · fin_cases hf <;> rfl
  · delta Instr.opcode
    fin_cases hf <;> simp (disch := omega) [decode, decodeAlu, Nat.add_mul_div_right, Nat.mod_eq_of_lt] <;> rfl

theorem roundTrips_aluImm16 (r : Acc16) (v : Byte) :
    ∀ f ∈ [Instr.addImm16, .adcImm16, .subImm16, .sbcImm16, .andImm16, .xorImm16, .orImm16, .cpImm16],
      RoundTrips p (f r v) := by
  have := r.code_lt
  intro f hf e1 e2 _
  delta Instr.opcode
  fin_cases hf <;> simp (disch := omega) [decode, decodeAlu, aluImm16, Nat.add_mul_div_right, Nat.mod_eq_of_lt]

theorem roundTrips_aluSrc16 (r : Acc16) (s : Src16) :
    ∀ f ∈ [Instr.addSrc16, .adcSrc16, .subSrc16, .sbcSrc16, .andSrc16, .xorSrc16, .orSrc16, .cpSrc16],
      RoundTrips p (f r s) := by
  have := s.code_bounds
  have := r.code_lt
  intro f hf
  refine .src16 s ?_ fun e1 e2 => ?_
  · fin_cases hf <;> rfl
  · delta Instr.opcode
    fin_cases hf <;> simp (disch := omega) [decode, decodeAlu, Nat.add_mul_div_right, Nat.mod_eq_of_lt] <;> rfl

theorem roundTrips_aluDst16 (d : Loc16) (r : Acc16) :
    ∀ f ∈ [Instr.addDst16, .adcDst16, .subDst16, .sbcDst16, .andDst16, .xorDst16, .orDst16, .cpDst16],
      RoundTrips p (f d r) := by
  have := d.code_bounds
  have := r.code_lt
  intro f hf
  refine .loc16 (f := (f · r)) d ?_ fun e1 e2 => ?_
  · fin_cases hf <;> rfl
  · delta Instr.opcode
    fin_cases hf <;> simp (disch := omega) [decode, decodeAlu, Nat.add_mul_div_right, Nat.mod_eq_of_lt] <;> rfl

/-! ## Control: calls, jumps, returns (R119) -/

theorem roundTrips_callr (v : BitVec 10) : RoundTrips p (.callr v) := fun e1 e2 _ => by
  delta Instr.opcode
  simp (disch := omega) [decode, decodeCall, Nat.mod_eq_of_lt]

theorem roundTrips_callrl (v : BitVec 15) : RoundTrips p (.callrl v) := fun e1 e2 h => by
  obtain ⟨rfl, -⟩ := List.cons_prefix_cons.mp h
  delta Instr.opcode
  simp [decode, decodeCall, field]

theorem roundTrips_callfAbs (b : Byte) (a : Word) : RoundTrips p (.callfAbs b a) := fun e1 e2 h => by
  obtain ⟨rfl, -⟩ := List.cons_prefix_cons.mp h
  delta Instr.opcode
  simp (disch := omega) [decode, decodeCall, Nat.mod_eq_of_lt]

theorem roundTrips_rst (b : Byte) : RoundTrips p (.rst b) := fun e1 e2 h => by
  delta Instr.opcode
  simp (disch := omega) [decode, decodeCall, Nat.mod_eq_of_lt]

theorem roundTrips_callSrc (s : Src16) : ∀ f ∈ [Instr.call, .calld], RoundTrips p (f s) := by
  have := s.code_bounds
  intro f hf
  refine .src16 s ?_ fun e1 e2 => ?_
  · fin_cases hf <;> rfl
  · delta Instr.opcode
    fin_cases hf <;> simp (disch := omega) [decode, decodeCall, Nat.mod_eq_of_lt]

theorem roundTrips_callfMem (m : PlainMem) : RoundTrips p (.callfMem m) := .m24 m rfl fun e1 e2 => by
  have := m.isMemCode.lt
  delta Instr.opcode
  simp (disch := omega) [decode, decodeCall, Nat.mod_eq_of_lt]

theorem roundTrips_jr (cond : Cond) (v : BitVec 10) : RoundTrips p (.jr cond v) := fun e1 e2 _ => by
  have := cond.code_lt
  delta Instr.opcode
  simp (disch := omega) [decode, decodeJump, Nat.add_mul_div_right, Nat.mod_eq_of_lt]

theorem roundTrips_jpSrc (cond : Cond) (s : Src16) : ∀ f ∈ [Instr.jp, .jpd], RoundTrips p (f cond s) := by
  have := cond.code_lt
  have := s.code_bounds
  intro f hf
  refine .src16 s ?_ fun e1 e2 => ?_
  · fin_cases hf <;> rfl
  · delta Instr.opcode
    fin_cases hf <;> simp (disch := omega) [decode, decodeJump, Nat.add_mul_div_right, Nat.mod_eq_of_lt]

theorem roundTrips_jpfMem (cond : Cond) (m : PlainMem) : RoundTrips p (.jpfMem cond m) := .m24 m rfl fun e1 e2 => by
  have := cond.code_lt
  have := m.isMemCode.lt
  delta Instr.opcode
  simp (disch := omega) [decode, decodeJump, Nat.add_mul_div_right, Nat.mod_eq_of_lt]

theorem roundTrips_jrl (cond : Cond) (v : BitVec 15) : RoundTrips p (.jrl cond v) := fun e1 e2 h => by
  have := cond.code_lt
  obtain ⟨rfl, -⟩ := List.cons_prefix_cons.mp h
  have hlow : cond.code * 4096 % 256 = 0 := by omega
  delta Instr.opcode
  simp (disch := omega) [decode, decodeJump, Nat.add_mul_div_right, Nat.mod_eq_of_lt, hlow]

theorem roundTrips_jpfAbs (cond : Cond) (b : Byte) (a : Word) : RoundTrips p (.jpfAbs cond b a) := fun e1 e2 h => by
  have := cond.code_lt
  obtain ⟨rfl, -⟩ := List.cons_prefix_cons.mp h
  delta Instr.opcode
  simp (disch := omega) [decode, decodeJump, Nat.add_mul_div_right, Nat.mod_eq_of_lt]

theorem roundTrips_return (cond : Cond) : ∀ f ∈ [Instr.ret, .retf], RoundTrips p (f cond) := by
  intro f hf e1 e2 _
  fin_cases hf <;> cases cond <;> rfl

theorem roundTrips_reti (n : BitVec 3) : RoundTrips p (.reti n) := fun e1 e2 _ => by
  have h0 : (0xEF10 + n.toNat * 32) % 256 ≠ 0 := by omega
  have h80 : (0xEF10 + n.toNat * 32) % 256 ≠ 0x80 := by omega
  delta Instr.opcode
  simp (disch := omega) [decode, decodeJump, decodeReturn, Nat.add_mul_div_right, Nat.mod_eq_of_lt, h0, h80]

/-- Every well-formed instruction has its row above. -/
theorem roundTrips_of_wf (i : Instr) (h : i.wf = true) : RoundTrips p i := by
  cases i with
  | nop | halt | stop | ccf | sds | daa | sao | das | sau | popF | popGpr | popAll | pushKF | pushGpr | pushAll =>
    exact fun _ _ _ => rfl
  | exs l => exact roundTrips_exs (of_decide_eq_true h)
  | djnz8 r v => exact roundTrips_djnz8 r v
  | djnz16 r v => exact roundTrips_djnz16 r v
  | repiReg r => exact roundTrips_repiReg r
  | repiImm n => exact roundTrips_repiImm n
  | ldpca d v | ldixa d v | ldspa d v => exact roundTrips_wordLoc16 d v _ (by simp)
  | ldFromPortInc d | ldFromF d | ldFromPort d | ldFromC d | ldFromPortDec d | ldFromE d =>
    exact roundTrips_group1From d _ (by simp)
  | mulu s | divu s | ldPortInc s | ldF s | ldPort s | ldC s | ldPortDec s | ldE s =>
    exact roundTrips_group1To s _ (by simp)
  | mulsw s | divsw s => exact roundTrips_mulsw_divsw s _ (by simp)
  | resf m | di m | setf m | ei m => exact roundTrips_mask m _ (by simp)
  | inc n d | dec n d => exact roundTrips_countByte n d _ (by simp)
  | neg d | cpl d | ngc d | clr d => exact roundTrips_unaryByte d _ (by simp)
  | incw n d | decw n d => exact roundTrips_countWord n d _ (by simp)
  | negw d | cplw d | ngcw d | clrw d => exact roundTrips_unaryWord d _ (by simp)
  | rlc d | rrc d | rl d | rr d | sla d | sra d | swap d | srl d => exact roundTrips_shiftByte d _ (by simp)
  | rlcw d | rrcw d | rlw d | rrw d | slaw d | sraw d | swapw d | srlw d =>
    exact roundTrips_shiftWord d _ (by simp)
  | bitImmPort b | resImmPort b | setImmPort b => exact roundTrips_bitImmPort b _ (by simp)
  | bitImm b s => exact roundTrips_bitImm b s
  | resImm b d | setImm b d => exact roundTrips_bitImmDst b d _ (by simp)
  | bitAccPort r | resAccPort r | setAccPort r => exact roundTrips_bitAccPort r _ (by simp)
  | bitAcc r s => exact roundTrips_bitAcc r s
  | resAcc r d | setAcc r d => exact roundTrips_bitAccDst r d _ (by simp)
  | ldCImm v | addCImm v => exact roundTrips_cImm v _ (by simp)
  | pop d => exact roundTrips_pop h
  | push s => exact roundTrips_push h
  | stZm8 z r => exact (roundTrips_zm8 z r).1
  | ldZm8 r z => exact (roundTrips_zm8 z r).2
  | stZm16 z r => exact (roundTrips_zm16 r h).1
  | ldZm16 r z => exact (roundTrips_zm16 r h).2
  | ld d s => exact roundTrips_ld d s
  | ldw d s => exact roundTrips_ldw d s
  | ldRegImm r v => exact roundTrips_ldRegImm r v
  | addImm8 r v | adcImm8 r v | subImm8 r v | sbcImm8 r v | andImm8 r v | xorImm8 r v | orImm8 r v | cpImm8 r v =>
    exact roundTrips_aluImm8 r v _ (by simp)
  | addSrc8 r s | adcSrc8 r s | subSrc8 r s | sbcSrc8 r s | andSrc8 r s | xorSrc8 r s | orSrc8 r s | cpSrc8 r s =>
    exact roundTrips_aluSrc8 r s _ (by simp)
  | addDst8 d r | adcDst8 d r | subDst8 d r | sbcDst8 d r | andDst8 d r | xorDst8 d r | orDst8 d r | cpDst8 d r =>
    exact roundTrips_aluDst8 d r _ (by simp)
  | addImm16 r v | adcImm16 r v | subImm16 r v | sbcImm16 r v | andImm16 r v | xorImm16 r v | orImm16 r v
  | cpImm16 r v => exact roundTrips_aluImm16 r v _ (by simp)
  | addSrc16 r s | adcSrc16 r s | subSrc16 r s | sbcSrc16 r s | andSrc16 r s | xorSrc16 r s | orSrc16 r s
  | cpSrc16 r s => exact roundTrips_aluSrc16 r s _ (by simp)
  | addDst16 d r | adcDst16 d r | subDst16 d r | sbcDst16 d r | andDst16 d r | xorDst16 d r | orDst16 d r
  | cpDst16 d r => exact roundTrips_aluDst16 d r _ (by simp)
  | callr v => exact roundTrips_callr v
  | call s | calld s => exact roundTrips_callSrc s _ (by simp)
  | callfMem m => exact roundTrips_callfMem m
  | callrl v => exact roundTrips_callrl v
  | callfAbs b a => exact roundTrips_callfAbs b a
  | rst n => exact roundTrips_rst n
  | reti n => exact roundTrips_reti n
  | jr cond v => exact roundTrips_jr cond v
  | jp cond s | jpd cond s => exact roundTrips_jpSrc cond s _ (by simp)
  | jpfMem cond m => exact roundTrips_jpfMem cond m
  | jrl cond v => exact roundTrips_jrl cond v
  | jpfAbs cond b a => exact roundTrips_jpfAbs cond b a
  | ret cond | retf cond => exact roundTrips_return cond _ (by simp)

end


/-! ## Words as bytes (R10) -/

theorem wordOfBytes_bytesOfWords (w : Word) (ws : List Word) (rest : List Byte) :
    wordOfBytes (bytesOfWords (w :: ws) ++ rest) = w := by
  simp only [bytesOfWords, List.cons_append, wordOfBytes, field, BitVec.toNat_ofNat]
  apply BitVec.eq_of_toNat_eq
  rw [BitVec.toNat_ofNat]
  omega

theorem bytesOfWords_length (ws : List Word) : (bytesOfWords ws).length = 2 * ws.length := by
  induction ws with
  | nil => rfl
  | cons w ws ih =>
    simp only [bytesOfWords, List.length_cons, ih]
    omega

theorem length_encode (p : Machine.Params) (i : Instr) : (bytesOfWords (encode p i)).length = i.byteLength := by
  rw [bytesOfWords_length, encode, List.length_cons, i.byteLength_eq p, Nat.add_comm]

/-- The two words that are read after `w` begin with the words `ws` that were written there. -/
theorem ext_words_read {ws : List Word} (h : ws.length ≤ 2) (w : Word) (rest : List Byte) :
    ws <+: [wordOfBytes ((bytesOfWords (w :: ws) ++ rest).drop 2),
      wordOfBytes ((bytesOfWords (w :: ws) ++ rest).drop 4)] := by
  rcases ws with _ | ⟨a, _ | ⟨b, _ | _⟩⟩
  · exact List.nil_prefix
  · exact List.cons_prefix_cons.mpr ⟨(wordOfBytes_bytesOfWords a [] rest).symm, List.nil_prefix⟩
  · exact List.cons_prefix_cons.mpr ⟨(wordOfBytes_bytesOfWords a [b] rest).symm,
      List.cons_prefix_cons.mpr ⟨(wordOfBytes_bytesOfWords b [] rest).symm, List.nil_prefix⟩⟩
  · simp at h

theorem decodeBytes_of_decode {p : Machine.Params} {bs : List Byte} {i : Instr} (hlen : i.byteLength ≤ bs.length)
    (hdec : decode p (wordOfBytes bs) (wordOfBytes (bs.drop 2)) (wordOfBytes (bs.drop 4)) = .ok i) :
    decodeBytes p bs = .ok (i, bs.drop i.byteLength) := by
  have htwo : 2 ≤ i.byteLength := by
    unfold Instr.byteLength
    omega
  rw [decodeBytes, if_neg (by omega), hdec]
  exact if_neg (by omega)

/-- Settles O3: the bytes give back the word and the extension words, from which the decoder reads the instruction; its
length is that of the bytes, so what is left is what followed them. -/
theorem decodeReadsEncode : Obligations.DecodeReadsEncode := by
  intro p i rest h
  have hlen := length_encode p i
  have hword : wordOfBytes (bytesOfWords (encode p i) ++ rest) = BitVec.ofNat 16 i.opcode :=
    wordOfBytes_bytesOfWords _ _ rest
  have hdec := roundTrips_of_wf i h _ _ (ext_words_read (i.ext_length_le p) (BitVec.ofNat 16 i.opcode) rest)
  rw [← hword] at hdec
  rw [decodeBytes_of_decode (by simp [hlen]) hdec, ← hlen, List.drop_left]

end Sys2Proof

/-! PROOF. What the decoder accepts (spec/30_encoding.md R106, R112, R120, R123): each branch of `decode` answers an
instruction whose word is the word it looked at, and `Obligations.EncodeRestoresWords`. A branch fixes some fields of the
word and its operands' decoders the others; `omega` adds them up to the word again. -/

namespace Sys2Proof

/-! ## What a branch of the decoder shows -/

/-- `i` is well-formed, its word is `w`, and, where the pad counts, its extension words are those of `e1`, `e2`. -/
structure ReadFrom (p : Machine.Params) (w e1 e2 : Word) (i : Instr) : Prop where
  wf : i.wf = true
  opcode : w.toNat = i.opcode
  ext : p.padNonzero = .illegal → i.ext p <+: [e1, e2]

section
variable {p : Machine.Params} {w e1 e2 : Word} {i : Instr} {c : Nat}

theorem ReadFrom.ofOpcode (hwf : i.wf = true) (hop : w.toNat = i.opcode) (hext : i.ext p = []) : ReadFrom p w e1 e2 i :=
  ⟨hwf, hop, fun _ => hext ▸ List.nil_prefix⟩

/-- A branch that reads one operand of code `c`: the operand's decoder gives its code and what it takes of `e1`, so the
row `hf` remains. -/
theorem ReadFrom.operand {α : Type} {dec : Except DecodeError α} {code : α → Nat} {ext : α → List Word} {f : α → Instr}
    (hdec : ∀ a, dec = .ok a → c = code a ∧ (p.padNonzero = .illegal → ext a <+: [e1]))
    (hlen : ∀ a, (ext a).length ≤ 1) (h : dec.map f = .ok i)
    (hf : ∀ a, c = code a → (f a).wf = true ∧ w.toNat = (f a).opcode ∧ (f a).ext p = ext a) :
    ReadFrom p w e1 e2 i := by
  obtain ⟨a, ha, rfl⟩ := map_eq_ok.mp h
  obtain ⟨hc, hx⟩ := hdec a ha
  obtain ⟨hwf, hop, hext⟩ := hf a hc
  exact ⟨hwf, hop, fun hp => hext ▸ (ext_pair_iff (hlen a)).mpr (hx hp)⟩

theorem ReadFrom.loc8 {f : Loc8 → Instr} (h : (decodeLoc8 c e1).map f = .ok i)
    (hf : ∀ d, c = d.code → (f d).wf = true ∧ w.toNat = (f d).opcode ∧ (f d).ext p = d.ext) :
    ReadFrom p w e1 e2 i :=
  .operand (fun _ hd => (decodeLoc8_eq_ok.mp hd).imp_right fun hx _ => hx) Loc8.ext_length_le h hf

theorem ReadFrom.loc16 {f : Loc16 → Instr} (h : (decodeLoc16 c e1).map f = .ok i)
    (hf : ∀ d, c = d.code → (f d).wf = true ∧ w.toNat = (f d).opcode ∧ (f d).ext p = d.ext) :
    ReadFrom p w e1 e2 i :=
  .operand (fun _ hd => (decodeLoc16_eq_ok.mp hd).imp_right fun hx _ => hx) Loc16.ext_length_le h hf

theorem ReadFrom.src8 {f : Src8 → Instr} (h : (decodeSrc8 p c e1).map f = .ok i)
    (hf : ∀ s, c = s.code → (f s).wf = true ∧ w.toNat = (f s).opcode ∧ (f s).ext p = s.ext) :
    ReadFrom p w e1 e2 i :=
  .operand (fun _ hs => (decodeSrc8_eq_ok.mp hs).imp_right fun hx hp => Src8.ext_of_standsIn hp hx)
    Src8.ext_length_le h hf

theorem ReadFrom.src16 {f : Src16 → Instr} (h : (decodeSrc16 c e1).map f = .ok i)
    (hf : ∀ s, c = s.code → (f s).wf = true ∧ w.toNat = (f s).opcode ∧ (f s).ext p = s.ext) :
    ReadFrom p w e1 e2 i :=
  .operand (fun _ hs => (decodeSrc16_eq_ok.mp hs).imp_right fun hx _ => hx) Src16.ext_length_le h hf

theorem ReadFrom.m24 {f : PlainMem → Instr} (h : (decodeM24 c e1).map f = .ok i)
    (hf : ∀ m, c = m.code → (f m).wf = true ∧ w.toNat = (f m).opcode ∧ (f m).ext p = m.ext) :
    ReadFrom p w e1 e2 i :=
  .operand (fun _ hm => (decodeM24_eq_ok.mp hm).imp_right fun hx _ => hx) PlainMem.ext_length_le h hf

/-- LDPCA, LDIXA and LDSPA have their own word before the destination's. -/
theorem ReadFrom.wordLoc16 {f : Loc16 → Instr} (h : (decodeLoc16 c e2).map f = .ok i)
    (hf : ∀ d, c = d.code → (f d).wf = true ∧ w.toNat = (f d).opcode ∧ (f d).ext p = e1 :: d.ext) :
    ReadFrom p w e1 e2 i := by
  obtain ⟨d, hd, rfl⟩ := map_eq_ok.mp h
  obtain ⟨hc, hx⟩ := decodeLoc16_eq_ok.mp hd
  obtain ⟨hwf, hop, hext⟩ := hf d hc
  exact ⟨hwf, hop, fun _ => hext ▸ List.cons_prefix_cons.mpr ⟨rfl, hx⟩⟩

/-! ## Fields of one bit -/

theorem code_decodeAcc8_field (w : Word) (k : Nat) : (decodeAcc8 (field w k k)).code = field w k k :=
  code_decodeAcc8 (by simpa using field_lt w k k)

theorem code_decodeAcc16_field (w : Word) (k : Nat) : (decodeAcc16 (field w k k)).code = field w k k :=
  code_decodeAcc16 (by simpa using field_lt w k k)

theorem toNat_decide_field (w : Word) (k : Nat) : (decide (field w k k = 1)).toNat = field w k k := by
  have h : field w k k < 2 := by simpa using field_lt w k k
  interval_cases field w k k <;> rfl

/-! ## Group 0000 (R113) -/

/-- The list bits of EXS are its word (30_encoding.md R113). -/
theorem RegList.code_of_fields (hw : w.toNat / 2048 = 0) (h9 : field w 9 9 = 0) :
    RegList.code ⟨field w 10 10 = 1, field w 8 8 = 1, field w 7 7 = 1, field w 6 6 = 1, field w 5 5 = 1,
      field w 4 4 = 1, field w 3 3 = 1, field w 2 2 = 1, field w 1 1 = 1, field w 0 0 = 1⟩ = w.toNat := by
  have next (k : Nat) : w.toNat / 2 ^ k = 2 * (w.toNat / 2 ^ (k + 1)) + field w k k := by
    have hbit : field w k k = w.toNat / 2 ^ k % 2 := by simp [field]
    rw [hbit, Nat.pow_succ, ← Nat.div_div_eq_div_mul]
    omega
  have top : w.toNat / 2 ^ 11 = 0 := hw
  have bits := next 0
  rw [next 1, next 2, next 3, next 4, next 5, next 6, next 7, next 8, next 9, next 10, top, h9] at bits
  simp only [RegList.code, toNat_decide_field]
  omega

theorem readFrom_exs {l : RegList} (hw : w ≠ 0) (h : l.code = w.toNat) : ReadFrom p w e1 e2 (.exs l) := by
  refine .ofOpcode (decide_eq_true ?_) h.symm rfl
  rintro rfl
  exact hw (BitVec.eq_of_toNat_eq h.symm)

theorem readFrom_decodeGroup0 (hw : w.toNat / 2048 = 0) (h : decodeGroup0 w = .ok i) : ReadFrom p w e1 e2 i := by
  unfold decodeGroup0 at h
  split at h
  · next h9 =>
    split at h
    · next h0 =>
      cases h
      exact .ofOpcode rfl (by rw [h0]; rfl) rfl
    · next h0 =>
      rw [← Except.ok.inj h]
      exact readFrom_exs h0 (RegList.code_of_fields hw h9)
  · split at h
    · cases h
      refine .ofOpcode rfl ?_ rfl
      simp only [Instr.opcode, code_decodeAcc8_field, BitVec.toNat_ofNat]
      simp only [field] at *
      omega
    · cases h
      refine .ofOpcode rfl ?_ rfl
      simp only [Instr.opcode, code_decodeAcc16_field, BitVec.toNat_ofNat]
      simp only [field] at *
      omega

/-! ## Group 0001 (R114) -/

theorem readFrom_decodeSystem (hw : w.toNat / 32 = 0x80) (h : decodeSystem w = .ok i) : ReadFrom p w e1 e2 i := by
  unfold decodeSystem at h
  split at h
  · cases h
    exact .ofOpcode rfl (by simp only [Instr.opcode, BitVec.toNat_ofNat, field] at *; omega) rfl
  · have hlo : field w 1 0 < 4 := field_lt w 1 0
    have hhi : field w 3 2 < 4 := field_lt w 3 2
    interval_cases hl : field w 1 0 <;> interval_cases hh : field w 3 2 <;> cases h <;>
      exact .ofOpcode rfl (by simp only [Instr.opcode, decodeRepReg, RepReg.code, field] at *; omega) rfl

theorem readFrom_decodeGroup1From (hw : w.toNat / 512 = 8) (h : decodeGroup1From w e1 e2 = .ok i) :
    ReadFrom p w e1 e2 i := by
  unfold decodeGroup1From at h
  split at h
  case h_1 => exact readFrom_decodeSystem (by simp only [field] at *; omega) h
  case h_2 hne | h_4 hne =>
    have : field w 5 5 ≠ 0 := hne
    exact .wordLoc16 h fun d hd => ⟨rfl, by simp only [Instr.opcode, field] at *; omega, rfl⟩
  case h_3 => exact .wordLoc16 h fun d hd => ⟨rfl, by simp only [Instr.opcode, field] at *; omega, rfl⟩
  case h_11 => cases h
  all_goals exact .loc8 h fun d hd => ⟨rfl, by simp only [Instr.opcode, field] at *; omega, rfl⟩

theorem readFrom_decodeGroup1To (hw : w.toNat / 512 = 9) (h : decodeGroup1To p w e1 = .ok i) :
    ReadFrom p w e1 e2 i := by
  unfold decodeGroup1To at h
  split at h
  case h_2 hne | h_4 hne =>
    have : field w 5 5 ≠ 0 := hne
    exact .src16 h fun s hs => ⟨rfl, by simp only [Instr.opcode, field] at *; omega, rfl⟩
  case h_11 => cases h
  all_goals exact .src8 h fun s hs => ⟨rfl, by simp only [Instr.opcode, field] at *; omega, rfl⟩

theorem readFrom_decodeGroup1 (hw : w.toNat / 2048 = 2) (h : decodeGroup1 p w e1 e2 = .ok i) :
    ReadFrom p w e1 e2 i := by
  unfold decodeGroup1 at h
  split at h
  · split at h
    · exact readFrom_decodeGroup1From (by simp only [field] at *; omega) h
    · exact readFrom_decodeGroup1To (by simp only [field] at *; omega) h
  · have hk : field w 9 8 < 4 := field_lt w 9 8
    interval_cases hv : field w 9 8 <;> cases h <;>
      exact .ofOpcode rfl (by simp only [Instr.opcode, BitVec.toNat_ofNat, field] at *; omega) rfl

/-! ## Group 0010 (R115) -/

theorem readFrom_decodeGroup2Byte (hw : w.toNat / 1024 = 8) (h : decodeGroup2Byte w e1 = .ok i) :
    ReadFrom p w e1 e2 i := by
  unfold decodeGroup2Byte at h
  split at h
  · split at h <;>
      exact .loc8 h fun d hd => ⟨rfl, by simp only [Instr.opcode, BitVec.toNat_ofNat, field] at *; omega, rfl⟩
  · split at h
    · have hk : field w 8 7 < 4 := field_lt w 8 7
      interval_cases hv : field w 8 7 <;>
        exact .loc8 h fun d hd => ⟨rfl, by simp only [Instr.opcode, field] at *; omega, rfl⟩
    · cases h

theorem readFrom_decodeGroup2Word (hw : w.toNat / 1024 = 9) (h : decodeGroup2Word w e1 = .ok i) :
    ReadFrom p w e1 e2 i := by
  unfold decodeGroup2Word at h
  split at h
  · split at h <;>
      exact .loc16 h fun d hd => ⟨rfl, by simp only [Instr.opcode, BitVec.toNat_ofNat, field] at *; omega, rfl⟩
  · split at h
    · have hk : field w 8 7 < 4 := field_lt w 8 7
      interval_cases hv : field w 8 7 <;>
        exact .loc16 h fun d hd => ⟨rfl, by simp only [Instr.opcode, field] at *; omega, rfl⟩
    · cases h

/-! ## Group 0011 (R116) -/

theorem readFrom_decodeShiftByte (hw : w.toNat / 256 = 0x30) (h : decodeShiftByte w e1 = .ok i) :
    ReadFrom p w e1 e2 i := by
  unfold decodeShiftByte at h
  have hk : field w 7 5 < 8 := field_lt w 7 5
  interval_cases hv : field w 7 5 <;>
    exact .loc8 h fun d hd => ⟨rfl, by simp only [Instr.opcode, field] at *; omega, rfl⟩

theorem readFrom_decodeShiftWord (hw : w.toNat / 256 = 0x34) (h : decodeShiftWord w e1 = .ok i) :
    ReadFrom p w e1 e2 i := by
  unfold decodeShiftWord at h
  have hk : field w 7 5 < 8 := field_lt w 7 5
  interval_cases hv : field w 7 5 <;>
    exact .loc16 h fun d hd => ⟨rfl, by simp only [Instr.opcode, field] at *; omega, rfl⟩

theorem readFrom_decodeBitImm (hw : w.toNat / 1024 = 12) (h0 : field w 9 8 ≠ 0) (h : decodeBitImm p w e1 = .ok i) :
    ReadFrom p w e1 e2 i := by
  unfold decodeBitImm at h
  have hpos := Nat.pos_of_ne_zero h0
  have hk : field w 9 8 < 4 := field_lt w 9 8
  by_cases hport : field w 4 0 = 30
  · simp only [hport, if_true] at h
    interval_cases hv : field w 9 8 <;> cases h <;>
      exact .ofOpcode rfl (by simp only [Instr.opcode, BitVec.toNat_ofNat, field] at *; omega) rfl
  · simp only [hport, if_false] at h
    interval_cases hv : field w 9 8
    · exact .src8 h fun d hd => ⟨rfl, by simp only [Instr.opcode, BitVec.toNat_ofNat, field] at *; omega, rfl⟩
    · exact .loc8 h fun d hd => ⟨rfl, by simp only [Instr.opcode, BitVec.toNat_ofNat, field] at *; omega, rfl⟩
    · exact .loc8 h fun d hd => ⟨rfl, by simp only [Instr.opcode, BitVec.toNat_ofNat, field] at *; omega, rfl⟩

theorem readFrom_decodeBitAcc (hw : w.toNat / 1024 = 13) (h0 : field w 9 8 ≠ 0) (h : decodeBitAcc p w e1 = .ok i) :
    ReadFrom p w e1 e2 i := by
  unfold decodeBitAcc at h
  have hr := code_decodeAcc8_field w 7
  have hpos := Nat.pos_of_ne_zero h0
  have hk : field w 9 8 < 4 := field_lt w 9 8
  split at h
  · generalize decodeAcc8 (field w 7 7) = r at h hr
    by_cases hport : field w 4 0 = 30
    · simp only [hport, if_true] at h
      interval_cases hv : field w 9 8 <;> cases h <;>
        exact .ofOpcode rfl (by simp only [Instr.opcode, field] at *; omega) rfl
    · simp only [hport, if_false] at h
      interval_cases hv : field w 9 8
      · exact .src8 h fun d hd => ⟨rfl, by simp only [Instr.opcode, field] at *; omega, rfl⟩
      · exact .loc8 h fun d hd => ⟨rfl, by simp only [Instr.opcode, field] at *; omega, rfl⟩
      · exact .loc8 h fun d hd => ⟨rfl, by simp only [Instr.opcode, field] at *; omega, rfl⟩
  · cases h

theorem readFrom_decodeGroup3 (hw : w.toNat / 2048 = 6) (h : decodeGroup3 p w e1 = .ok i) :
    ReadFrom p w e1 e2 i := by
  unfold decodeGroup3 at h
  split at h
  · split at h
    · exact readFrom_decodeShiftByte (by simp only [field] at *; omega) h
    · exact readFrom_decodeShiftWord (by simp only [field] at *; omega) h
  · next h0 =>
    split at h
    · exact readFrom_decodeBitImm (by simp only [field] at *; omega) h0 h
    · exact readFrom_decodeBitAcc (by simp only [field] at *; omega) h0 h

/-! ## Groups 0100 to 0111 (R117) -/

theorem readFrom_decodeStack (hw : w.toNat / 256 = 0x43) (h : decodeStack w e1 = .ok i) :
    ReadFrom p w e1 e2 i := by
  unfold decodeStack at h
  split at h
  case h_7 =>
    have h1F : field w 7 0 ≠ 0x1F := by assumption
    have h9F : field w 7 0 ≠ 0x9F := by assumption
    split at h
    · refine .loc16 h fun d hd => ⟨decide_eq_true ?_, by simp only [Instr.opcode, field] at *; omega, rfl⟩
      rintro rfl
      simp only [Loc16.code, Reg16.code, field] at *
      omega
    · refine .src16 h fun d hd => ⟨decide_eq_true ?_, by simp only [Instr.opcode, field] at *; omega, rfl⟩
      rintro rfl
      simp only [Src16.code, Loc16.code, Reg16.code, field] at *
      omega
    · cases h
  all_goals
    cases h
    exact .ofOpcode rfl (by simp only [Instr.opcode, field] at *; omega) rfl

theorem readFrom_decodeGroup4 (hw : w.toNat / 2048 = 8) (h : decodeGroup4 w e1 = .ok i) :
    ReadFrom p w e1 e2 i := by
  unfold decodeGroup4 at h
  split at h
  case h_3 => exact readFrom_decodeStack (by simp only [field] at *; omega) h
  case h_4 => cases h
  all_goals
    cases h
    exact .ofOpcode rfl (by simp only [Instr.opcode, BitVec.toNat_ofNat, field] at *; omega) rfl

theorem readFrom_decodeGroup5 (hw : w.toNat / 2048 = 10) (h : decodeGroup5 w = .ok i) :
    ReadFrom p w e1 e2 i := by
  unfold decodeGroup5 at h
  have hz := code_decodeZm w
  have hr8 := code_decodeAcc8_field w 8
  have hr16 := code_decodeAcc16_field w 8
  have hk : field w 10 9 < 4 := field_lt w 10 9
  interval_cases hv : field w 10 9
  · cases h
    exact .ofOpcode rfl (by simp only [Instr.opcode, field] at *; omega) rfl
  · cases h
    exact .ofOpcode rfl (by simp only [Instr.opcode, field] at *; omega) rfl
  all_goals
    obtain ⟨z, h16, rfl⟩ := map_eq_ok.mp h
    unfold decodeZm16 at h16
    split at h16 <;> cases h16
    next hwf => exact .ofOpcode hwf (by simp only [Instr.opcode, field] at *; omega) rfl

theorem readFrom_decodeGroup6 (hw : w.toNat / 2048 = 12) (h : decodeGroup6 p w e1 e2 = .ok i) :
    ReadFrom p w e1 e2 i := by
  unfold decodeGroup6 at h
  dsimp only at h
  split at h
  · split at h <;> cases h
    next s d hs hd =>
    obtain ⟨hsc, hsx⟩ := decodeSrc8_eq_ok.mp hs
    obtain ⟨hdc, hdx⟩ := decodeLoc8_eq_ok.mp hd
    rw [hsc] at hdx
    exact ⟨rfl, by simp only [Instr.opcode, field] at *; omega, fun hp =>
      (append_ext_iff s.ext_length_le d.ext_length_le s.rmExtCount_code).mpr ⟨Src8.ext_of_standsIn hp hsx, hdx⟩⟩
  · split at h <;> cases h
    next s d hs hd =>
    obtain ⟨hsc, hsx⟩ := decodeSrc16_eq_ok.mp hs
    obtain ⟨hdc, hdx⟩ := decodeLoc16_eq_ok.mp hd
    rw [hsc] at hdx
    exact ⟨rfl, by simp only [Instr.opcode, field] at *; omega, fun _ =>
      (append_ext_iff s.ext_length_le d.ext_length_le s.rmExtCount_code).mpr ⟨hsx, hdx⟩⟩

theorem readFrom_decodeGroup7 (hw : w.toNat / 2048 = 14) (h : decodeGroup7 w = .ok i) : ReadFrom p w e1 e2 i := by
  have hr : (decodeLdReg (field w 10 8)).ldCode = field w 10 8 := ldCode_decodeLdReg (field_lt w 10 8)
  cases h
  exact .ofOpcode rfl (by simp only [Instr.opcode, BitVec.toNat_ofNat, field] at *; omega) rfl

/-! ## The ALU group (R118) -/

section
variable {op : Nat} (h : op < 8)
include h

theorem aluImm8_row (r : Acc8) (v : Byte) : (aluImm8 op r v).wf = true ∧ (aluImm8 op r v).ext p = [] ∧
    (aluImm8 op r v).opcode = 0x8000 + op * 4096 + r.code * 256 + v.toNat := by
  interval_cases op <;> exact ⟨rfl, rfl, rfl⟩

theorem aluSrc8_row (r : Acc8) (s : Src8) : (aluSrc8 op r s).wf = true ∧ (aluSrc8 op r s).ext p = s.ext ∧
    (aluSrc8 op r s).opcode = 0x8200 + op * 4096 + r.code * 256 + s.code := by
  interval_cases op <;> exact ⟨rfl, rfl, rfl⟩

theorem aluDst8_row (r : Acc8) (d : Loc8) : (aluDst8 op r d).wf = true ∧ (aluDst8 op r d).ext p = d.ext ∧
    (aluDst8 op r d).opcode = 0x8220 + op * 4096 + r.code * 256 + d.code := by
  interval_cases op <;> exact ⟨rfl, rfl, rfl⟩

theorem aluImm16_row (r : Acc16) (v : Byte) : (aluImm16 op r v).wf = true ∧ (aluImm16 op r v).ext p = [] ∧
    (aluImm16 op r v).opcode = 0x8400 + op * 4096 + r.code * 256 + v.toNat := by
  interval_cases op <;> exact ⟨rfl, rfl, rfl⟩

theorem aluSrc16_row (r : Acc16) (s : Src16) : (aluSrc16 op r s).wf = true ∧ (aluSrc16 op r s).ext p = s.ext ∧
    (aluSrc16 op r s).opcode = 0x8600 + op * 4096 + r.code * 256 + s.code := by
  interval_cases op <;> exact ⟨rfl, rfl, rfl⟩

theorem aluDst16_row (r : Acc16) (d : Loc16) : (aluDst16 op r d).wf = true ∧ (aluDst16 op r d).ext p = d.ext ∧
    (aluDst16 op r d).opcode = 0x8620 + op * 4096 + r.code * 256 + d.code := by
  interval_cases op <;> exact ⟨rfl, rfl, rfl⟩

end

theorem readFrom_decodeAlu (hw : 8 ≤ field w 15 12) (h11 : field w 11 11 = 0) (h : decodeAlu p w e1 = .ok i) :
    ReadFrom p w e1 e2 i := by
  unfold decodeAlu at h
  have hr8 := code_decodeAcc8_field w 8
  have hr16 := code_decodeAcc16_field w 8
  have hop : field w 14 12 < 8 := field_lt w 14 12
  split at h
  · split at h <;> cases h
    · obtain ⟨hwf, hext, hcode⟩ := aluImm8_row (p := p) hop (decodeAcc8 (field w 8 8)) (.ofNat 8 (field w 7 0))
      exact .ofOpcode hwf (by rw [hcode]; simp only [BitVec.toNat_ofNat, field] at *; omega) hext
    · obtain ⟨hwf, hext, hcode⟩ := aluImm16_row (p := p) hop (decodeAcc16 (field w 8 8)) (.ofNat 8 (field w 7 0))
      exact .ofOpcode hwf (by rw [hcode]; simp only [BitVec.toNat_ofNat, field] at *; omega) hext
  · split at h
    · refine .src8 h fun s hs => ?_
      obtain ⟨hwf, hext, hcode⟩ := aluSrc8_row (p := p) hop (decodeAcc8 (field w 8 8)) s
      exact ⟨hwf, by rw [hcode]; simp only [field] at *; omega, hext⟩
    · refine .loc8 h fun d hd => ?_
      obtain ⟨hwf, hext, hcode⟩ := aluDst8_row (p := p) hop (decodeAcc8 (field w 8 8)) d
      exact ⟨hwf, by rw [hcode]; simp only [field] at *; omega, hext⟩
    · next hne =>
      have : field w 10 10 ≠ 0 := hne
      refine .src16 h fun s hs => ?_
      obtain ⟨hwf, hext, hcode⟩ := aluSrc16_row (p := p) hop (decodeAcc16 (field w 8 8)) s
      exact ⟨hwf, by rw [hcode]; simp only [field] at *; omega, hext⟩
    · next hne =>
      have : field w 10 10 ≠ 0 := hne
      refine .loc16 h fun d hd => ?_
      obtain ⟨hwf, hext, hcode⟩ := aluDst16_row (p := p) hop (decodeAcc16 (field w 8 8)) d
      exact ⟨hwf, by rw [hcode]; simp only [field] at *; omega, hext⟩
    · cases h

/-! ## Control (R119) -/

theorem readFrom_decodeCall (hw : w.toNat / 2048 = 31) (h : decodeCall p w e1 = .ok i) : ReadFrom p w e1 e2 i := by
  unfold decodeCall at h
  split at h
  · cases h
    exact .ofOpcode rfl (by simp only [Instr.opcode, BitVec.toNat_ofNat, field] at *; omega) rfl
  · split at h
    · split at h
      · exact .src16 h fun s hs => ⟨rfl, by simp only [Instr.opcode, field] at *; omega, rfl⟩
      · exact .src16 h fun s hs => ⟨rfl, by simp only [Instr.opcode, field] at *; omega, rfl⟩
      · exact .m24 h fun m hm => ⟨rfl, by simp only [Instr.opcode, field] at *; omega, rfl⟩
      · cases h
    · split at h
      · split at h <;> cases h
        next o ho =>
        exact ⟨rfl, by simp only [Instr.opcode, field] at *; omega, fun _ =>
          by simp [Instr.ext, ← (Machine.Pcr15Layout.offset_eq_some ..).mp ho]⟩
      · cases h
    · cases h
      exact ⟨rfl, by simp only [Instr.opcode, BitVec.toNat_ofNat, field] at *; omega, fun _ => by simp [Instr.ext]⟩
    · next h0 h1 h2 =>
      have : field w 9 8 ≠ 0 ∧ field w 9 8 ≠ 1 ∧ field w 9 8 ≠ 2 := ⟨h0, h1, h2⟩
      cases h
      exact .ofOpcode rfl (by simp only [Instr.opcode, BitVec.toNat_ofNat, field] at *; omega) rfl

theorem readFrom_decodeReturn (h15 : field w 15 12 < 15) (hlow : field w 11 8 = 15) (h : decodeReturn w = .ok i) :
    ReadFrom p w e1 e2 i := by
  unfold decodeReturn at h
  have hc := code_decodeCond h15
  split at h
  · cases h
    exact .ofOpcode rfl (by simp only [Instr.opcode, field] at *; omega) rfl
  · split at h
    · cases h
      exact .ofOpcode rfl (by simp only [Instr.opcode, field] at *; omega) rfl
    · split at h
      · next hr =>
        obtain ⟨h14, h10⟩ := hr
        cases h
        exact .ofOpcode rfl (by simp only [Instr.opcode, BitVec.toNat_ofNat, field] at *; omega) rfl
      · cases h

theorem readFrom_decodeJump (h15 : field w 15 12 < 15) (h11 : field w 11 11 = 1) (h : decodeJump p w e1 = .ok i) :
    ReadFrom p w e1 e2 i := by
  unfold decodeJump at h
  dsimp only at h
  have hc := code_decodeCond h15
  split at h
  · cases h
    exact .ofOpcode rfl (by simp only [Instr.opcode, BitVec.toNat_ofNat, field] at *; omega) rfl
  · split at h
    · split at h
      · exact .src16 h fun s hs => ⟨rfl, by simp only [Instr.opcode, field] at *; omega, rfl⟩
      · exact .src16 h fun s hs => ⟨rfl, by simp only [Instr.opcode, field] at *; omega, rfl⟩
      · exact .m24 h fun m hm => ⟨rfl, by simp only [Instr.opcode, field] at *; omega, rfl⟩
      · cases h
    · split at h
      · split at h <;> cases h
        next o ho =>
        exact ⟨rfl, by simp only [Instr.opcode, field] at *; omega, fun _ =>
          by simp [Instr.ext, ← (Machine.Pcr15Layout.offset_eq_some ..).mp ho]⟩
      · cases h
    · cases h
      exact ⟨rfl, by simp only [Instr.opcode, BitVec.toNat_ofNat, field] at *; omega, fun _ => by simp [Instr.ext]⟩
    · next h0 h1 h2 =>
      have : field w 9 8 ≠ 0 ∧ field w 9 8 ≠ 1 ∧ field w 9 8 ≠ 2 := ⟨h0, h1, h2⟩
      exact readFrom_decodeReturn h15 (by simp only [field] at *; omega) h

/-- Whatever the decoder answers has the word it was read from. -/
theorem readFrom_decode (h : decode p w e1 e2 = .ok i) : ReadFrom p w e1 e2 i := by
  unfold decode at h
  have hw := w.isLt
  split at h
  · next h11 =>
    split at h
    · exact readFrom_decodeCall (by simp only [field] at *; omega) h
    · exact readFrom_decodeJump (by simp only [field] at *; omega) h11 h
  · next h11 =>
    have h11 : field w 11 11 = 0 := by have := field_lt w 11 11; omega
    split at h
    · exact readFrom_decodeGroup0 (by simp only [field] at *; omega) h
    · exact readFrom_decodeGroup1 (by simp only [field] at *; omega) h
    · split at h
      · exact readFrom_decodeGroup2Byte (by simp only [field] at *; omega) h
      · exact readFrom_decodeGroup2Word (by simp only [field] at *; omega) h
    · exact readFrom_decodeGroup3 (by simp only [field] at *; omega) h
    · exact readFrom_decodeGroup4 (by simp only [field] at *; omega) h
    · exact readFrom_decodeGroup5 (by simp only [field] at *; omega) h
    · exact readFrom_decodeGroup6 (by simp only [field] at *; omega) h
    · exact readFrom_decodeGroup7 (by simp only [field] at *; omega) h
    · simp only [imp_false] at *
      exact readFrom_decodeAlu (by omega) h11 h

theorem encode_take_iff : encode p i = [w, e1, e2].take (1 + (i.ext p).length) ↔ encode p i <+: [w, e1, e2] := by
  rw [List.prefix_iff_eq_take, encode, List.length_cons, Nat.add_comm]

end

/-- Settles O4: the answer has the word it was read from, and its extension words where the pad counts. -/
theorem encodeRestoresWords : Obligations.EncodeRestoresWords := by
  intro p w e1 e2 i h
  obtain ⟨hwf, hop, hext⟩ := readFrom_decode h
  have hw : BitVec.ofNat 16 i.opcode = w := by rw [← hop, ofNat_toNat_same]
  exact ⟨hwf, congrArg some hw, fun hp => encode_take_iff.mpr (List.cons_prefix_cons.mpr ⟨hw, hext hp⟩)⟩

end Sys2Proof

/-! PROOF. Comparing and then testing a condition (spec/30_encoding.md R110, R288): what the flags of CP say of the two
operands, and `Obligations.CompareThenCondition`. -/

namespace Sys2Proof.Machine

section
variable {w : Nat} (p : Params) (f : Flags) (x y : BitVec w)

/-- CP subtracts without a borrow in, whatever flag C was. -/
theorem cp_res : (AluOp.cp.eval p x y f.c).res = x - y := by
  have hx := x.isLt
  have hy := y.isLt
  apply BitVec.eq_of_toNat_eq
  simp only [AluOp.eval, subFlags, Bool.toNat_false, BitVec.toNat_ofInt, BitVec.toNat_sub]
  zify
  rw [Int.toNat_of_nonneg (Int.emod_nonneg _ (by positivity)), Nat.cast_sub hy.le]
  push_cast
  rw [← Int.add_emod_right]
  congr 1
  ring

/-- Of two words with different signs the larger, read unsigned, is the negative one. -/
theorem ult_of_msb_ne {x y : BitVec w} (h : x.msb ≠ y.msb) : decide (x.toNat < y.toNat) = y.msb := by
  simp only [BitVec.msb_eq_decide, ne_eq, decide_eq_decide] at h ⊢
  omega

/-- Between words of one sign the difference is negative exactly where it borrows. -/
theorem msb_sub_of_msb_eq {x y : BitVec w} (h : x.msb = y.msb) : (x - y).msb = decide (x.toNat < y.toNat) := by
  rcases w with _ | n
  · simp [BitVec.of_length_zero]
  · have hx := x.isLt
    have hy := y.isLt
    simp only [BitVec.msb_eq_decide, Nat.add_sub_cancel, BitVec.toNat_sub, decide_eq_decide] at h ⊢
    rw [Nat.pow_succ] at *
    generalize 2 ^ n = N at *
    by_cases hlt : x.toNat < y.toNat
    · rw [Nat.mod_eq_of_lt (by omega)]
      omega
    · have hwrap : N * 2 - y.toNat + x.toNat = x.toNat - y.toNat + N * 2 := by omega
      rw [hwrap, Nat.add_mod_right, Nat.mod_eq_of_lt (by omega)]
      omega

/-- Sign and overflow of the difference differ exactly where the first operand, read signed, is the smaller. -/
theorem msb_ne_overflow_eq_slt :
    ((x - y).msb != (x.msb != y.msb && (x - y).msb != x.msb)) = decide (x.toInt < y.toInt) := by
  rw [← BitVec.slt_eq_decide, BitVec.slt_eq_ult, BitVec.ult_eq_decide]
  by_cases h : x.msb = y.msb
  · rw [msb_sub_of_msb_eq h]
    simp [h]
  · rw [ult_of_msb_ne h]
    cases hx : x.msb <;> cases hy : y.msb <;> simp_all

/-- Flag Z says equal, flag C less unsigned, and S xor V less signed. -/
theorem cp_flags : let g := AluOp.cp.putFlags f (AluOp.cp.eval p x y f.c)
    g.z = decide (x = y) ∧ g.c = decide (x.toNat < y.toNat) ∧ (g.s != g.v) = decide (x.toInt < y.toInt) := by
  refine ⟨?_, ?_, ?_⟩
  · change ((AluOp.cp.eval p x y f.c).res == 0) = _
    rw [cp_res, beq_eq_decide]
    simp [BitVec.sub_eq_iff_eq_add]
  · change decide ((x.toNat : Int) - y.toNat - 0 < 0) = _
    simp only [decide_eq_decide]
    omega
  · change ((AluOp.cp.eval p x y f.c).res.msb != (x.msb != y.msb && (AluOp.cp.eval p x y f.c).res.msb != x.msb)) = _
    rw [cp_res, msb_ne_overflow_eq_slt]

/-- The other conditions are made of those three by negation and by joining equality. -/
theorem cp_conditions : let g := AluOp.cp.putFlags f (AluOp.cp.eval p x y f.c)
    g.cond .z = decide (x = y) ∧ g.cond .c = decide (x.toNat < y.toNat) ∧ g.cond .nc = decide (y.toNat ≤ x.toNat) ∧
    g.cond .ule = decide (x.toNat ≤ y.toNat) ∧ g.cond .ugt = decide (y.toNat < x.toNat) ∧
    g.cond .lt = decide (x.toInt < y.toInt) ∧ g.cond .ge = decide (y.toInt ≤ x.toInt) ∧
    g.cond .le = decide (x.toInt ≤ y.toInt) ∧ g.cond .gt = decide (y.toInt < x.toInt) := by
  intro g
  obtain ⟨hz, hc, hlt⟩ := cp_flags p f x y
  have hge : (g.s == g.v) = !decide (x.toInt < y.toInt) := by rw [← hlt, bne, Bool.not_not]
  have hzu : g.z = decide (x.toNat = y.toNat) := hz.trans (decide_eq_decide.mpr BitVec.toNat_inj.symm)
  have hzs : g.z = decide (x.toInt = y.toInt) := hz.trans (decide_eq_decide.mpr BitVec.toInt_inj.symm)
  refine ⟨hz, hc, ?_, ?_, ?_, hlt, ?_, ?_, ?_⟩
  · change (!g.c) = _
    rw [hc, ← decide_not, decide_eq_decide]
    omega
  · change (g.c || g.z) = _
    rw [hc, hzu, ← Bool.decide_or, decide_eq_decide]
    omega
  · change (!g.c && !g.z) = _
    rw [hc, hzu, ← decide_not, ← decide_not, ← Bool.decide_and, decide_eq_decide]
    omega
  · change (g.s == g.v) = _
    rw [hge, ← decide_not, decide_eq_decide]
    omega
  · change (g.s != g.v || g.z) = _
    rw [hlt, hzs, ← Bool.decide_or, decide_eq_decide]
    omega
  · change (g.s == g.v && !g.z) = _
    rw [hge, hzs, ← decide_not, ← decide_not, ← Bool.decide_and, decide_eq_decide]
    omega

end

/-- Settles O21: the conditions after CP hold at every width, so at the two of the machine. -/
theorem compareThenCondition : Obligations.CompareThenCondition := ⟨cp_conditions, cp_conditions⟩

end Sys2Proof.Machine

/-! PROOF. The far frame, and the step at an illegal encoding (spec/30_encoding.md R121, R334, R335):
`Obligations.IllegalEncodingRaises`. -/

namespace Sys2Proof.Machine

/-! ## What stands in the frame of `State.pushFar` -/

/-- Bytes of bank $00 at different offsets are different bytes. -/
theorem Ea.bank0_byte_ne {a b : Word} {m n : Nat} (h : a + BitVec.ofNat 16 m ≠ b + BitVec.ofNat 16 n) :
    (Ea.bank0 a).byte m ≠ (Ea.bank0 b).byte n := by
  rw [Ea.bank0, Ea.bank0, Ea.inBank_byte, Ea.inBank_byte]
  exact fun e => h (by simpa only [extract_low] using congrArg (BitVec.extractLsb' 0 16) e)

section
variable (s : State)

theorem State.readByte_lo_write16 (h : s.mem.wf = true) (ea : Ea) (v : Word) :
    (s.write16 ea v).readByte (ea.byte 0) = loByte v := by
  conv_rhs => rw [← s.read16_write16_same h ea v]
  exact (loByte_pair _ _).symm

theorem State.readByte_hi_write16 (h : s.mem.wf = true) (ea : Ea) (v : Word) :
    (s.write16 ea v).readByte (ea.byte 1) = hiByte v := by
  conv_rhs => rw [← s.read16_write16_same h ea v]
  exact (hiByte_pair _ _).symm

theorem State.pushFar_sp (ret : Word) : (s.pushFar ret).sp = s.sp - 4 := by
  rw [State.pushFar, State.push16_sp, State.push16_sp]
  bv_omega

/-- The return word does not reach the bytes of K and F, pushed before it. -/
theorem State.pushFar_readByte_outer (ret : Word) {n : Nat} (hn : n < 2) :
    (s.pushFar ret).readByte ((Ea.bank0 (s.sp - 2)).byte n) =
      (s.push16 s.kf).readByte ((Ea.bank0 (s.sp - 2)).byte n) := by
  have hsp : (s.push16 s.kf).sp = s.sp - 2 := s.push16_sp _
  refine State.readByte_push16_other _ _ ?_
  simp only [State.pushBytes, Ea.bytes16, hsp, List.mem_cons, List.not_mem_nil, or_false, not_or]
  constructor <;> apply Ea.bank0_byte_ne <;> interval_cases n <;> bv_omega

/-- The frame holds the return word, then F, then K. -/
theorem State.pushFar_read (h : s.mem.wf = true) (ret : Word) :
    (s.pushFar ret).read16 (Ea.bank0 (s.sp - 4)) = ret ∧
    (s.pushFar ret).readByte (0#8 ++ (s.sp - 4 + 2)) = s.f.toByte ∧
    (s.pushFar ret).readByte (0#8 ++ (s.sp - 4 + 3)) = s.k := by
  have hsp : (s.push16 s.kf).sp - 2 = s.sp - 4 := by
    rw [State.push16_sp]
    bv_omega
  have hlo : (0#8 ++ (s.sp - 4 + 2) : Addr) = (Ea.bank0 (s.sp - 2)).byte 0 := by
    rw [Ea.bank0, Ea.inBank_byte]
    congr 1
    bv_omega
  have hhi : (0#8 ++ (s.sp - 4 + 3) : Addr) = (Ea.bank0 (s.sp - 2)).byte 1 := by
    rw [Ea.bank0, Ea.inBank_byte]
    congr 1
    bv_omega
  refine ⟨?_, ?_, ?_⟩
  · rw [← hsp]
    exact State.read16_write16_same ((s.push16 s.kf).setSp _) (s.push16_wf h _) _ _
  · rw [hlo, s.pushFar_readByte_outer ret (by decide)]
    exact (State.readByte_lo_write16 (s.setSp _) h _ _).trans (loByte_pair _ _)
  · rw [hhi, s.pushFar_readByte_outer ret (by decide)]
    exact (State.readByte_hi_write16 (s.setSp _) h _ _).trans (hiByte_pair _ _)

end

/-- Whatever has the stack pointer and the memory that `pushFar` leaves holds the far frame. -/
theorem farFrame_of_pushFar {s t : State} {ret : Word} (hsp : t.spHi = (s.pushFar ret).spHi)
    (hmem : t.mem = (s.pushFar ret).mem) : FarFrame s t ret := by
  have hsp4 : t.sp = s.sp - 4 := (congrArg (· ++ 0#1) hsp).trans (s.pushFar_sp ret)
  have hread : ∀ a, t.readByte a = (s.pushFar ret).readByte a := fun a => congrArg (·.read a.toNat) hmem
  refine ⟨hsp4, fun a ha => (hread a).trans ((s.pushed_pushFar ret).stores.read_other ha), fun h => ?_⟩
  have hread16 : ∀ ea, t.read16 ea = (s.pushFar ret).read16 ea := fun ea => by simp only [State.read16, hread]
  rw [hsp4, hread16, hread, hread]
  exact s.pushFar_read h ret

/-! ## The illegal encoding -/

theorem runInstr_of_illegal {s : State} {e : DecodeError} (h : s.fetchAt s.pc = .error e) :
    runInstr s = s.raiseIllegal s.pc (s.fetchWord s.pc) := by
  simp only [runInstr, h]

/-- Settles O8: at a quiet boundary the step is the instruction's alone, which raises the illegal encoding; a trap
enters $FF0010 over the frame of `pushFar`. -/
theorem illegalEncodingRaises : Obligations.IllegalEncodingRaises := by
  intro s e hrun hq he
  have hstep : step s = s.inputTaken.raiseIllegal s.pc (s.fetchWord s.pc) :=
    (step_of_quiet hrun hq).trans (runInstr_of_illegal (s := s.inputTaken) he)
  constructor
  · intro hm
    have hfault : s.inputTaken.illegalMode = .fault := hm
    simp only [hstep, State.raiseIllegal, hfault]
    rfl
  · intro hm
    have htrap : s.inputTaken.illegalMode = .trap := hm
    have hentered : step s = .next (s.inputTaken.enter 0xFF 0x0010 s.pc) := by
      simp only [hstep, State.raiseIllegal, htrap]
    refine ⟨s.inputTaken.enter 0xFF 0x0010 s.pc, hentered, ?_, ?_, ?_⟩
    · exact State.setPc_pc_even _ (by decide)
    · exact farFrame_of_pushFar (s := s.inputTaken) rfl rfl
    · rw [State.enter, ← hrun]
      rfl

end Sys2Proof.Machine

/-! PROOF. The misc and system instructions (spec/40_misc_system.md R140 to R150, R153 to R156) and the boundary of a core
that does not run (spec/60_exceptions.md R346): `Obligations.HaltAndStop`, `Obligations.ImplicitInstructions`,
`Obligations.MaskInstructions`, `Obligations.ExsExchanges`, `Obligations.DecimalAdjust`, `Obligations.RepiRegister`. -/

namespace Sys2Proof.Machine

/-! ## HALT and STOP -/

section
variable {s : State}

/-- A halted core that accepts nothing stays halted (60_exceptions.md R346). -/
theorem step_of_halted (hrun : s.run = .halted) (hq : QuietBoundary s) : step s = .next s.inputTaken := by
  obtain ⟨hreset, hnmi, hirq⟩ := hq
  have hirq' : s.inputTaken.accepted s.input.pending = none := hirq
  have hrun' : s.inputTaken.run = .halted := hrun
  rw [step_of_no_reset hreset (by simp [hrun])]
  simp [boundary, hnmi, hirq', hrun']

/-- A stopped core looks at the wake-up event alone (60_exceptions.md R346, decision D16). -/
theorem step_of_stopped (hrun : s.run = .stopped) (hreset : s.input.reset = none) :
    step s = .next { s.inputTaken with run := if s.input.wakeup then .running else .stopped } := by
  have hstay : s.inputTaken = { s.inputTaken with run := .stopped } := by rw [← hrun]; rfl
  simp only [step, takeStep, hreset, hrun, if_true]
  cases s.input.wakeup with
  | true => rfl
  | false => exact congrArg Host.Outcome.next hstay

end

/-- Settles O11: HALT and STOP by their meanings, the boundaries by `step_of_halted` and `step_of_stopped`. -/
theorem haltAndStop : Obligations.HaltAndStop :=
  ⟨fun _ => rfl, fun _ => rfl, fun _ hrun hq => step_of_halted hrun hq, fun _ hrun hreset => step_of_stopped hrun hreset⟩

/-! ## The step on an instruction of one word -/

/-- At a quiet boundary a running core that fetches the word of a one-word instruction executes it, with PC two bytes
on (00_scope.md R16, 10_state.md R28). -/
theorem step_of_opcode {s : State} {i : Instr} (hwf : i.wf = true) (hlen : i.byteLength = 2) (hrun : s.run = .running)
    (hq : QuietBoundary s) (hw : s.fetchWord s.pc = BitVec.ofNat 16 i.opcode) :
    step s = exec i (s.inputTaken.setPc (s.pc + 2)) := by
  have hext : i.ext s.params = [] := by
    have := i.byteLength_eq s.params
    exact List.eq_nil_of_length_eq_zero (by omega)
  have hfetch : s.inputTaken.fetchAt s.inputTaken.pc = .ok i := by
    have hdec := roundTrips_of_wf (p := s.params) i hwf (s.fetchWord (s.pc + 2)) (s.fetchWord (s.pc + 4))
      (hext ▸ List.nil_prefix)
    rwa [← hw] at hdec
  rw [step_of_quiet hrun hq, runInstr_of_decoded hfetch, hlen]
  rfl

/-! ## NOP, CCF, SDS, SAO, SAU -/

/-- The words of the implicit instructions (30_encoding.md R113, R114). -/
theorem implicit_words :
    ∀ p ∈ [((0x0000 : Word), Instr.nop), (0x1008, .ccf), (0x100C, .sds), (0x1005, .sao), (0x100D, .sau)],
      p.2.wf = true ∧ p.2.byteLength = 2 ∧ p.1 = BitVec.ofNat 16 p.2.opcode := by
  decide

/-- Settles O22: the effects by their meanings, the steps by `step_of_opcode` on each of the five words. -/
theorem implicitInstructions : Obligations.ImplicitInstructions := by
  refine ⟨fun s => ⟨rfl, rfl, rfl, rfl, rfl⟩, fun p hp s hrun hq hw => ?_⟩
  obtain ⟨hwf, hlen, hop⟩ := implicit_words p hp
  exact step_of_opcode hwf hlen hrun hq (hw.trans hop)

/-! ## RESF, SETF, DI, EI -/

/-- A byte under a word whose low byte is zero adds to it. -/
theorem ofNat_or_byte (k : Nat) (m : Byte) :
    BitVec.ofNat 16 (2 ^ 8 * k) ||| m.zeroExtend 16 = BitVec.ofNat 16 (2 ^ 8 * k + m.toNat) := by
  have hm : m.zeroExtend 16 = BitVec.ofNat 16 m.toNat := (BitVec.ofNat_toNat 16 m).symm
  rw [Nat.two_pow_add_eq_or_of_lt m.isLt, BitVec.ofNat_or, hm]

/-- The words of the mask instructions (30_encoding.md R114). -/
theorem mask_words (m : Byte) :
    ∀ p ∈ [((0x1400 : Word), Instr.resf m), (0x1600, .setf m), (0x1500, .di m), (0x1700, .ei m)],
      p.2.wf = true ∧ p.2.byteLength = 2 ∧ (p.1 ||| m.zeroExtend 16) = BitVec.ofNat 16 p.2.opcode := by
  simp only [List.forall_mem_cons, List.not_mem_nil, false_imp_iff, implies_true, and_true]
  exact ⟨⟨rfl, rfl, ofNat_or_byte 0x14 m⟩, ⟨rfl, rfl, ofNat_or_byte 0x16 m⟩, ⟨rfl, rfl, ofNat_or_byte 0x15 m⟩,
    ⟨rfl, rfl, ofNat_or_byte 0x17 m⟩⟩

/-- Settles O23: F is the byte it was set from, E is written as it stands, and the steps are `step_of_opcode`. -/
theorem maskInstructions : Obligations.MaskInstructions := by
  refine fun m s => ⟨⟨_, rfl, Flags.toByte_ofByte _, rfl⟩, ⟨_, rfl, Flags.toByte_ofByte _, rfl⟩, rfl, rfl, ?_⟩
  intro p hp hrun hq hw
  obtain ⟨hwf, hlen, hop⟩ := mask_words m p hp
  exact step_of_opcode hwf hlen hrun hq (hw.trans hop)

/-! ## EXS -/

/-- A bit of a word as its field of one bit (00_scope.md R10). -/
theorem getLsbD_eq_field (w : Word) (k : Nat) : w.getLsbD k = decide (field w k k = 1) := by
  simp [field, BitVec.getLsbD, Nat.testBit_eq_decide_div_mod_eq]

/-- What the fixed zero bits of the pattern `00000F0CDSIXHLAB` say of a word (30_encoding.md R113). -/
theorem exs_fixed_bits {w : Word} (h : w &&& 0xFA00 = 0) : w.toNat / 2048 = 0 ∧ field w 9 9 = 0 := by
  have clear (k : Nat) (hk : (0xFA00 : Word).getLsbD k = true) : w.getLsbD k = false := by
    have hand := congrArg (·.getLsbD k) h
    rw [BitVec.getLsbD_and, hk, Bool.and_true] at hand
    exact hand.trans BitVec.getLsbD_zero
  constructor
  · refine Nat.div_eq_of_lt (Nat.lt_pow_two_of_testBit (n := 11) _ fun k hk => ?_)
    by_cases h16 : k < 16
    · exact clear k (by interval_cases k <;> rfl)
    · exact BitVec.getLsbD_of_ge w k (by omega)
  · have h9 := clear 9 rfl
    have hlt := field_lt w 9 9
    rw [getLsbD_eq_field, decide_eq_false_iff_not] at h9
    omega

/-- A word of the pattern of EXS is that of EXS with the list its bits name (30_encoding.md R113). -/
theorem step_of_exs_word {w : Word} {s : State} (hbits : w &&& 0xFA00 = 0) (hw0 : w ≠ 0) (hrun : s.run = .running)
    (hq : QuietBoundary s) (hw : s.fetchWord s.pc = w) :
    step s = exec (.exs ⟨w.getLsbD 10, w.getLsbD 8, w.getLsbD 7, w.getLsbD 6, w.getLsbD 5, w.getLsbD 4, w.getLsbD 3,
      w.getLsbD 2, w.getLsbD 1, w.getLsbD 0⟩) (s.inputTaken.setPc (s.pc + 2)) := by
  obtain ⟨hhi, h9⟩ := exs_fixed_bits hbits
  simp only [getLsbD_eq_field]
  have hread := readFrom_exs (p := s.params) (e1 := 0) (e2 := 0) hw0 (RegList.code_of_fields hhi h9)
  refine step_of_opcode hread.wf rfl hrun hq ?_
  rw [hw, ← hread.opcode, BitVec.ofNat_toNat, BitVec.setWidth_eq]

/-- Two values that change places twice are back where they were. -/
theorem exchange_twice {α : Type} (b : Bool) (x y : α) :
    (if b then (if b then x else y) else (if b then y else x)) = x := by
  cases b <;> rfl

/-- So are two register sets (40_misc_system.md R141). -/
theorem exchanged_twice (list : RegList) (main other : Regs) :
    exchanged list (exchanged list main other) (exchanged list other main) = main := by
  simp only [exchanged, exchange_twice]

/-- EXS undoes itself: the register sets change places twice, and so do the seven flags, past which I stays (R141). -/
theorem execExs_undoes {list : RegList} {s t : State} (h : execExs list s = .next t) : execExs list t = .next s := by
  cases h
  simp only [execExs, exchanged_twice]
  cases list.f <;> rfl

/-- Settles O24: the word by `step_of_exs_word`, the exchange by its meaning and `execExs_undoes`. -/
theorem exsExchanges : Obligations.ExsExchanges :=
  ⟨fun _ _ hbits hw0 hrun hq hw => step_of_exs_word hbits hw0 hrun hq hw, fun _ _ => ⟨rfl, execExs_undoes rfl⟩⟩

/-! ## DAA and DAS -/

/-- The index of a table's entry, in bits and in numbers (log 36). -/
theorem decimalEntry_of_get {values : Vector (Byte × Bool) 1024} {a : Byte} {h c : Bool} {r : Byte × Bool}
    (hr : values[4 * a.toNat + 2 * h.toNat + c.toNat]? = some r) : decimalEntry values a h c = r := by
  have hindex : (a ++ BitVec.ofBool h ++ BitVec.ofBool c : BitVec 10).toNat = 4 * a.toNat + 2 * h.toNat + c.toNat := by
    have hc : (a ++ BitVec.ofBool h ++ BitVec.ofBool c : BitVec 10) = (a.concat h).concat c := rfl
    rw [hc, BitVec.toNat_concat, BitVec.toNat_concat]
    omega
  rw [← hindex] at hr
  exact Vector.getElem_eq_iff.mpr hr

/-- Settles O25: the algorithm a parameter names gives the value, and `State.adjusted` writes it to A, Z and C. -/
theorem decimalAdjust : Obligations.DecimalAdjust := by
  intro s lo hi d index ends
  have daa (r : Byte × Bool) (h : calculateDaa s.params s.regs.a s.f.h s.f.c = r) : ends .daa r.1 r.2 := by
    rw [← h]
    rfl
  have das (r : Byte × Bool) (h : calculateDas s.params s.regs.a s.f.h s.f.c = r) : ends .das r.1 r.2 := by
    rw [← h]
    rfl
  refine ⟨fun h => daa (_, _) ?_, fun h => das (_, _) ?_, fun values r hr => ⟨fun h => daa r ?_, fun h => das r ?_⟩⟩
  · simp only [calculateDaa, h]
    rfl
  · simp only [calculateDas, h]
    rfl
  · simp only [calculateDaa, h]
    exact decimalEntry_of_get hr
  · simp only [calculateDas, h]
    exact decimalEntry_of_get hr

/-! ## REPI r -/

/-- The counter of REPI r after a repetition became 0 when the target left it at 1 (40_misc_system.md R150). -/
theorem State.counted_eq (u : State) (r : RepReg) (repi : Word) :
    u.counted r repi = if u.reg8 (counterReg r) = 1 then u.setReg8 (counterReg r) 0
      else (u.setReg8 (counterReg r) (u.reg8 (counterReg r) - 1)).setPc repi := by
  have hzero : u.reg8 (counterReg r) - 1 = 0 ↔ u.reg8 (counterReg r) = 1 := sub_eq_zero
  simp only [State.counted, hzero]
  split
  · next h => rw [h]; rfl
  · rfl

section
variable {i : Instr} {s u : State}

/-- A repetition of REPI r whose target completes is counted (R150). -/
theorem exec_repiReg_of_next (r : RepReg) (hf : s.fetchAt s.pc = .ok i) (hr : repeatable i = true)
    (h : exec i (s.setPc (s.pc + BitVec.ofNat 16 i.byteLength)) = .next u) :
    exec (.repiReg r) s = .next (u.counted r (s.pc - 2)) := by
  rw [exec_repiReg, execRepiReg, withTarget_of_repeatable hf hr, execTarget_eq_exec i _ hr, h]

/-- A repetition of REPI r whose target stops is that stop (R150). -/
theorem exec_repiReg_of_fault (r : RepReg) {e : Fault} (hf : s.fetchAt s.pc = .ok i) (hr : repeatable i = true)
    (h : exec i (s.setPc (s.pc + BitVec.ofNat 16 i.byteLength)) = .fault e) : exec (.repiReg r) s = .fault e := by
  rw [exec_repiReg, execRepiReg, withTarget_of_repeatable hf hr, execTarget_eq_exec i _ hr, h]

end

/-- Settles O56: the repetition ends as its target does; a completed one is counted as `State.counted_eq` says, and LD
of bytes always completes. -/
theorem repiRegister : Obligations.RepiRegister := by
  intro r i s u hf hr past
  refine ⟨fun h => ?_, fun e h => exec_repiReg_of_fault r hf hr h, ?_⟩
  · rw [exec_repiReg_of_next r hf hr h, State.counted_eq]
  · rintro ⟨dst, src, rfl⟩
    exact ⟨_, exec_repiReg_of_next r hf hr (exec_ld dst src past)⟩

end Sys2Proof.Machine

/-! PROOF. The effective-address instructions (spec/41_effective_address.md R170 to R172), and
`Obligations.EffectiveAddressLoads`. -/

namespace Sys2Proof.Machine

/-! ## A word in its destination -/

section
variable (s : State) (dst : Loc16) (v : Word)

/-- Writing a destination is writing the register, if it is one, and storing: memory is all that `State.withReg16`
leaves out. -/
theorem State.writeLoc16_eq_withReg16 :
    s.writeLoc16 dst v s = { s.withReg16 dst v with mem := (s.writeLoc16 dst v s).mem } := by
  cases dst with
  | reg r => cases r <;> rfl
  | mem m => rfl

@[simp] theorem State.withReg16_params : (s.withReg16 dst v).params = s.params := by
  cases dst <;> simp [State.withReg16]

@[simp] theorem State.withReg16_c : (s.withReg16 dst v).regs.c = s.regs.c := by
  cases dst <;> simp [State.withReg16]

/-- Writing F what it holds changes nothing. -/
theorem State.setF_of_f {u : State} {g : Flags} (h : u.f = g) : u.setF g = u := by
  subst h
  rfl

end

/-- The alignment check of a destination that `EvenMem` allows passes. -/
theorem whenAligned_loc16Ea {s : State} {dst : Loc16} (h : EvenMem s dst.memory) (r : Result) :
    whenAligned s.params.misaligned (s.loc16Ea dst) r = r := by
  rw [loc16Ea_eq, whenAligned_evenMem h]

/-! ## LDPCA -/

/-- What LDPCA has written when only its auto-index is left: the destination, then D and its flag (R170, decision
D37). -/
def State.ldpcaWritten (s : State) (dst : Loc16) (v : Word) : State :=
  ((s.writeLoc16 dst (s.pc + v) s).setReg8 .d s.k).setF { s.f with d := true }

/-- Its 16-bit registers: D is written last, so over the upper byte of a destination DS (decision D37). -/
theorem State.ldpcaWritten_reg16 (s : State) (dst : Loc16) (v : Word) :
    (s.ldpcaWritten dst v).reg16 = ((s.withReg16 dst (s.pc + v)).setReg8 .d s.k).reg16 := by
  rw [State.ldpcaWritten, State.writeLoc16_eq_withReg16]
  funext r
  cases r <;> rfl

section
variable {s : State} {dst : Loc16} (v : Word)

/-- LDPCA into an even destination completes. -/
theorem exec_ldpca_of_even (h : EvenMem s dst.memory) :
    exec (.ldpca dst v) s =
      .next ((s.ldpcaWritten dst v).autoIndex .star 2 ((none : Option Mem).bind memAuto) (dst.memory.bind memAuto)) := by
  rw [exec_ldpca, execLdpca, whenAligned_loc16Ea h, loc16Auto_eq]
  rfl

/-- LDPCA into an even destination ends with the registers of `State.ldpcaWritten` stepped, PC + v stored, and the D
flag set (R170). -/
theorem ldpca_ends (h : EvenMem s dst.memory) :
    ∃ t, exec (.ldpca dst v) s = .next t ∧ DataOnly s t ∧
      RegsAre t 2 none dst.memory ((s.withReg16 dst (s.pc + v)).setReg8 .d s.k) ∧
      Stored16 s t dst.memory (s.pc + v) ∧ FlagsBesidesA t false { s.f with d := true } ∧
      FlagAIs t 2 none dst.memory ((s.withReg16 dst (s.pc + v)).setReg8 .d s.k) s.f.a none := by
  have hregs := s.ldpcaWritten_reg16 dst v
  refine ⟨_, exec_ldpca_of_even v h, ?_, ?_, ?_, ?_, ?_⟩
  · apply dataOnly_of <;> simp [State.ldpcaWritten]
  · obtain ⟨hr, hc⟩ := (s.ldpcaWritten dst v).autoIndex_regsAre .star 2 none dst.memory
    exact ⟨hregs ▸ hr, hc.trans (by simp [State.ldpcaWritten])⟩
  · exact s.writeLoc16_stored dst (s.pc + v) rfl (by simp [State.ldpcaWritten])
  · exact State.autoIndex_besidesA ..
  · exact (State.autoIndex_star_a ..).congr (congrFun hregs) (by simp [State.ldpcaWritten])

/-! ## LDIXA -/

/-- The integer sum of LDIXA, modulo 2^16, is the sum of the words (R171). -/
theorem ofInt_ixPlus (s : State) : BitVec.ofInt 16 (ixPlus s v) = s.reg16 .ix + v := by
  rw [ixPlus, BitVec.ofInt_add, BitVec.ofInt_natCast, BitVec.ofNat_toNat, BitVec.setWidth_eq, BitVec.ofInt_toInt]

/-- LDIXA into an even destination ends with IX + v in it; A is its own and says that the integer sum left the range 0
to $FFFF (R171). -/
theorem ldixa_ends (h : EvenMem s dst.memory) :
    Ends16 (.ldixa dst v) s none dst (s.reg16 .ix + v) false
      (some (decide (ixPlus s v < 0 ∨ 65535 < ixPlus s v))) s.f := by
  refine ends16_of (s' := s) (col := .own)
    (g := { s.f with a := decide (ixPlus s v < 0 ∨ 65535 < ixPlus s v) }) rfl ?_ (.inr ⟨rfl, rfl⟩) rfl
  rw [exec_ldixa, execLdixa, whenAligned_loc16Ea h, loc16Auto_eq, ofInt_ixPlus]
  rfl

end

/-! ## LDSPA -/

/-- An instruction that is a word store ends with the word in its even destination and F kept, A left to the
auto-index. -/
theorem store16_ends {i : Instr} {s : State} {dst : Loc16} {v : Word} (h : EvenMem s dst.memory)
    (hi : exec i s = store16 dst v s) : Ends16 i s none dst v false none s.f := by
  refine ends16_of (s' := s) (col := .star) (g := s.f) rfl ?_ (.inl ⟨rfl, rfl, rfl⟩) rfl
  rw [hi, store16, whenAligned_loc16Ea h, loc16Auto_eq, State.setF_of_f (s.writeLoc16_f dst v s)]
  rfl

/-- Settles O26: LDPCA and LDIXA by `ldpca_ends` and `ldixa_ends`; LDSPA is the word store of SP + imm (R172). -/
theorem effectiveAddressLoads : Obligations.EffectiveAddressLoads :=
  fun dst v s h => ⟨ldpca_ends v h, ldixa_ends v h, store16_ends h (exec_ldspa dst v s)⟩

end Sys2Proof.Machine

/-! PROOF. The multiplications and divisions (spec/42_muldiv.md R180 to R183): `Obligations.Multiplications`,
`Obligations.UnsignedDivision` and `Obligations.SignedDivision`. -/

namespace Sys2Proof.Machine

/-! ## Instructions that read an operand and write registers -/

/-- An instruction that writes registers (those of `u`), the flags `g` and then steps its source, with `n` the count of
free values, ends as `EndsReading` says. -/
theorem endsReading_of_regs {i : Instr} {s u : State} {w n : Nat} {src : Option Mem} {g : Flags}
    (hu : u = { s with regs := u.regs }) (hg : g.a = s.f.a)
    (he : exec i s = .next (({ u with fresh := n }.setF g).autoIndex .star w (src.bind memAuto) none)) :
    EndsReading i s w src none u none g := by
  have hparams : u.params = s.params := by rw [hu]
  have hmem : u.mem = s.mem := by rw [hu]
  refine endsReading_of (u' := { u with fresh := n }) (col := .star) ?_ (fun r => by cases r <;> rfl) rfl hparams hmem
    he (.inl ⟨rfl, rfl, hg⟩) rfl
  rw [hu]
  rfl

/-- The alignment check of a source that `EvenMem` allows passes. -/
theorem whenAligned_src16Ea {s : State} {src : Src16} (h : EvenMem s src.memory) (r : Result) :
    whenAligned s.params.misaligned (s.src16Ea src) r = r := by
  rw [src16Ea_eq, whenAligned_evenMem h]

/-! ## MULU -/

/-- MULU ends with the product of the bytes in AB (R180). -/
theorem mulu_ends (src : Src8) (s : State) (p : Word)
    (hp : p = s.regs.a.zeroExtend 16 * (s.readSrc8 src).zeroExtend 16) :
    EndsReading (.mulu src) s 1 src.memory none (s.setReg16 .ab p) none
      { s.f with s := p.msb, z := decide (p = 0), v := false } := by
  have hprod : BitVec.ofNat 16 (s.regs.a.toNat * (s.readSrc8 src).toNat) = p := by
    rw [hp, BitVec.ofNat_mul, BitVec.ofNat_toNat, BitVec.ofNat_toNat]
  refine endsReading_of_regs (n := s.fresh) rfl rfl ?_
  rw [exec_mulu, execMulu, hprod, src8Auto_eq]
  rfl

/-! ## MULSW -/

/-- The product of two signed words is that of their extensions to 32 bits, as a bit vector. -/
theorem ofInt_mul_toInt (x y : Word) :
    BitVec.ofInt 32 (x.toInt * y.toInt) = x.signExtend 32 * y.signExtend 32 :=
  BitVec.ofInt_mul x.toInt y.toInt

/-- It fits in 32 bits (R181: the product is at most 2^30 in size). -/
theorem toInt_mul_signExtend (x y : Word) : (x.signExtend 32 * y.signExtend 32).toInt = x.toInt * y.toInt := by
  have hlo : -2 ^ 30 ≤ x.toInt * y.toInt := BitVec.le_toInt_mul_toInt
  have hhi : x.toInt * y.toInt ≤ 2 ^ 30 := BitVec.toInt_mul_toInt_le
  rw [← ofInt_mul_toInt]
  exact BitVec.toInt_ofInt_eq_self (by decide) (by omega) (by omega)

/-- MULSW with an even source ends with the product of the words in ABHL (R181). -/
theorem mulsw_ends {src : Src16} {s : State} (h : EvenMem s src.memory) (p : BitVec 32)
    (hp : p = (s.reg16 .ab).signExtend 32 * (s.readSrc16 src).signExtend 32) :
    EndsReading (.mulsw src) s 2 src.memory none
      ((s.setReg16 .ab (p.extractLsb' 16 16)).setReg16 .hl (p.extractLsb' 0 16)) none
      { s.f with s := p.msb, z := decide (p = 0), v := false } := by
  have hbits : BitVec.ofInt 32 ((s.reg16 .ab).toInt * (s.readSrc16 src).toInt) = p := hp ▸ ofInt_mul_toInt _ _
  have hint : (s.reg16 .ab).toInt * (s.readSrc16 src).toInt = p.toInt := hp ▸ (toInt_mul_signExtend _ _).symm
  have hzero : p = 0 ↔ p.toInt = 0 := BitVec.toInt_inj.symm
  refine endsReading_of_regs (n := s.fresh) rfl rfl ?_
  rw [exec_mulsw, execMulsw, whenAligned_src16Ea h, hbits, hint, src16Auto_eq, BitVec.msb_eq_toInt]
  simp only [hzero]
  rfl

/-- Settles O27: `mulu_ends` and `mulsw_ends`. -/
theorem multiplications : Obligations.Multiplications :=
  ⟨fun src s => mulu_ends src s _ rfl, fun _ _ h => mulsw_ends h _ rfl⟩

/-! ## What the divisions share -/

/-- An instruction that ends with S, Z and V written, in the words of the division statements. -/
theorem EndsReading.exists_flagsSZV {i : Instr} {s u : State} {w : Nat} {src : Option Mem} {sf zf vf : Bool}
    (h : EndsReading i s w src none u none { s.f with s := sf, z := zf, v := vf }) :
    ∃ t, exec i s = .next t ∧ DataOnly s t ∧ MemoryKept [] s t ∧
      t.f = { s.f with s := t.f.s, z := zf, v := t.f.v, a := t.f.a } ∧ t.f.s = sf ∧ t.f.v = vf ∧
      RegsAre t w src none u ∧ FlagAIs t w src none u s.f.a none := by
  obtain ⟨t, he, hdata, hregs, hmem, hf, ha⟩ := h
  have hs : t.f.s = sf := congrArg Flags.s hf
  have hv : t.f.v = vf := congrArg Flags.v hf
  exact ⟨t, he, hdata, hmem, by rw [hs, hv]; exact hf, hs, hv, hregs, ha⟩

/-! ## DIVU -/

/-- The quotient of AB by a byte leaves the byte range exactly when A is at least the divisor (R182). -/
theorem State.byteQuotient_lt_iff (s : State) {d : Byte} (hd : d ≠ 0) :
    0xFF < (s.reg16 .ab).toNat / d.toNat ↔ d ≤ s.regs.a := by
  have hpos : 0 < d.toNat := Nat.pos_of_ne_zero fun h => hd (BitVec.eq_of_toNat_eq h)
  have hab : (s.reg16 .ab).toNat = 256 * s.regs.a.toNat + s.regs.b.toNat := by
    rw [State.reg16, pair, BitVec.toNat_append, ← Nat.shiftLeft_add_eq_or_of_lt s.regs.b.isLt, Nat.shiftLeft_eq,
      Nat.mul_comm]
  have hb := s.regs.b.isLt
  rw [Nat.lt_iff_add_one_le, Nat.le_div_iff_mul_le hpos, hab, BitVec.le_def]
  omega

section
variable {src : Src8} {s u : State} {n : Nat} {g : Flags}

/-- DIVU ends as its operation `State.divideU` says. -/
theorem divu_ends_of (hu : u = { s with regs := u.regs }) (hg : g.a = s.f.a)
    (hd : s.divideU (s.readSrc8 src) = { u with fresh := n }.setF g) :
    EndsReading (.divu src) s 1 src.memory none u none g :=
  endsReading_of_regs hu hg (by rw [exec_divu, execDivu, hd, src8Auto_eq])

/-- A zero divisor: no register is written, S and V are free (R182). -/
theorem divu_ends_of_zero (hd : s.readSrc8 src = 0) :
    EndsReading (.divu src) s 1 src.memory none s none
      { s.f with s := s.freeBit, z := true, v := s.drawn.freeBit } :=
  divu_ends_of (n := s.fresh + 2) rfl rfl (if_pos hd)

/-- A quotient that does not fit: A, B and S are free (R182). -/
theorem divu_ends_of_le (hd : s.readSrc8 src ≠ 0) (hle : s.readSrc8 src ≤ s.regs.a) :
    EndsReading (.divu src) s 1 src.memory none ((s.setReg8 .a (hiByte s.free)).setReg8 .b (loByte s.free)) none
      { s.f with s := s.drawn.freeBit, z := false, v := true } := by
  refine divu_ends_of (n := s.fresh + 2) rfl rfl ?_
  rw [State.divideU, if_neg hd, if_pos ((s.byteQuotient_lt_iff hd).mpr hle)]
  rfl

/-- A quotient that fits: it goes to B, the remainder to A (R182). -/
theorem divu_ends_of_lt (hlt : s.regs.a < s.readSrc8 src) :
    let n := (s.reg16 .ab).toNat
    let d := (s.readSrc8 src).toNat
    EndsReading (.divu src) s 1 src.memory none
      ((s.setReg8 .a (BitVec.ofNat 8 (n % d))).setReg8 .b (BitVec.ofNat 8 (n / d))) none
      { s.f with s := decide (128 ≤ n / d), z := false, v := false } := by
  intro n d
  have hd : s.readSrc8 src ≠ 0 := fun h => BitVec.not_lt_zero (h ▸ hlt)
  have hfits : ¬ 0xFF < n / d := fun h => BitVec.not_le.mpr hlt ((s.byteQuotient_lt_iff hd).mp h)
  have hsign : topBit (BitVec.ofNat 8 (n / d)) = decide (128 ≤ n / d) := by
    rw [topBit, BitVec.msb_eq_decide, BitVec.toNat_ofNat, Nat.mod_eq_of_lt (by omega)]
  refine divu_ends_of (n := s.fresh) rfl rfl ?_
  rw [State.divideU, if_neg hd, if_neg hfits, hsign]
  rfl

end

/-- Settles O28: the three cases of R182, which exclude each other. -/
theorem unsignedDivision : Obligations.UnsignedDivision := by
  intro src s d n
  by_cases hd : d = 0
  · have hlt : ¬ s.regs.a < d := fun h => BitVec.not_lt_zero (hd ▸ h)
    obtain ⟨t, he, hdata, hmem, hf, -, -, hends⟩ := (divu_ends_of_zero hd).exists_flagsSZV
    exact ⟨t, he, hdata, hmem, by rwa [decide_eq_true hd], fun _ => hends, fun h => absurd hd h, fun h => absurd h hlt⟩
  rw [decide_eq_false hd]
  by_cases hle : d ≤ s.regs.a
  · obtain ⟨t, he, hdata, hmem, hf, -, hv, hends⟩ := (divu_ends_of_le hd hle).exists_flagsSZV
    exact ⟨t, he, hdata, hmem, hf, fun h => absurd h hd, fun _ _ => ⟨hv, _, _, hends⟩,
      fun h => absurd hle (BitVec.not_le.mpr h)⟩
  · obtain ⟨t, he, hdata, hmem, hf, hs, hv, hends⟩ := (divu_ends_of_lt (BitVec.not_le.mp hle)).exists_flagsSZV
    exact ⟨t, he, hdata, hmem, hf, fun h => absurd h hd, fun _ h => absurd h hle, fun _ => ⟨hv, hs, hends⟩⟩

/-! ## DIVSW -/

/-- The remainder that goes with `Rounding.quotient` (R183). -/
def Rounding.remainder (r : Rounding) (n d : Int) : Int :=
  match r with
  | .truncate => n.tmod d
  | .floor => n.fmod d
  | .euclid => n.emod d

/-- It is what the quotient leaves of the dividend (R183). -/
theorem Rounding.sub_quotient_mul (r : Rounding) (n d : Int) : n - r.quotient n d * d = r.remainder n d := by
  rw [Int.mul_comm]
  cases r with
  | truncate => exact (Int.tmod_def n d).symm
  | floor => exact (Int.fmod_def n d).symm
  | euclid => exact (Int.emod_def n d).symm

section
variable {src : Src16} {s u : State} {n : Nat} {g : Flags}

/-- DIVSW with an even source ends as its operation `State.divideS` says. -/
theorem divsw_ends_of (h : EvenMem s src.memory) (hu : u = { s with regs := u.regs }) (hg : g.a = s.f.a)
    (hd : s.divideS (s.readSrc16 src) = { u with fresh := n }.setF g) :
    EndsReading (.divsw src) s 2 src.memory none u none g :=
  endsReading_of_regs hu hg (by rw [exec_divsw, execDivsw, whenAligned_src16Ea h, hd, src16Auto_eq])

/-- A zero divisor: no register is written, S and V are free (R183). -/
theorem divsw_ends_of_zero (h : EvenMem s src.memory) (hd : s.readSrc16 src = 0) :
    EndsReading (.divsw src) s 2 src.memory none s none
      { s.f with s := s.freeBit, z := true, v := s.drawn.freeBit } :=
  divsw_ends_of h (n := s.fresh + 2) rfl rfl (if_pos hd)

/-- A quotient that does not fit: AB, HL and S are free (R183). -/
theorem divsw_ends_of_not_fits (h : EvenMem s src.memory) (hd : s.readSrc16 src ≠ 0) {q : Int}
    (hq : q = s.params.divsRounding.quotient s.abhl (s.readSrc16 src).toInt) (hfits : ¬ (-32768 ≤ q ∧ q ≤ 32767)) :
    EndsReading (.divsw src) s 2 src.memory none ((s.setReg16 .ab s.free).setReg16 .hl s.drawn.free) none
      { s.f with s := s.drawn.drawn.freeBit, z := false, v := true } := by
  refine divsw_ends_of h (n := s.fresh + 3) rfl rfl ?_
  rw [State.divideS, if_neg hd, State.signedQuotient, ← hq, if_pos (by omega)]
  rfl

/-- A quotient that fits: it goes to HL, the remainder to AB (R183). -/
theorem divsw_ends_of_fits (h : EvenMem s src.memory) (hd : s.readSrc16 src ≠ 0) {q m : Int}
    (hq : q = s.params.divsRounding.quotient s.abhl (s.readSrc16 src).toInt)
    (hm : m = s.params.divsRounding.remainder s.abhl (s.readSrc16 src).toInt) (hfits : -32768 ≤ q ∧ q ≤ 32767) :
    EndsReading (.divsw src) s 2 src.memory none
      ((s.setReg16 .hl (BitVec.ofInt 16 q)).setReg16 .ab (BitVec.ofInt 16 m)) none
      { s.f with s := decide (q < 0), z := false, v := false } := by
  have hrem : s.abhl - q * (s.readSrc16 src).toInt = m := by rw [hq, hm, Rounding.sub_quotient_mul]
  have hout : ¬ (q < -32768 ∨ 32767 < q) := by omega
  refine divsw_ends_of h (n := s.fresh) rfl rfl ?_
  simp only [State.divideS, if_neg hd, State.signedQuotient, ← hq, hrem, if_neg hout]
  rfl

end

/-- Settles O29: the three cases of R183, which exclude each other; the quotient is `Rounding.quotient` and the
remainder `Rounding.remainder`. -/
theorem signedDivision : Obligations.SignedDivision := by
  intro src s h w d n q m fits
  have hq : q = s.params.divsRounding.quotient s.abhl (s.readSrc16 src).toInt := rfl
  have hm : m = s.params.divsRounding.remainder s.abhl (s.readSrc16 src).toInt := rfl
  by_cases hw : w = 0
  · obtain ⟨t, he, hdata, hmem, hf, -, -, hends⟩ := (divsw_ends_of_zero h hw).exists_flagsSZV
    exact ⟨t, he, hdata, hmem, by rwa [decide_eq_true hw], fun _ => hends, fun hne => absurd hw hne,
      fun hne => absurd hw hne⟩
  rw [decide_eq_false hw]
  by_cases hfits : fits
  · obtain ⟨t, he, hdata, hmem, hf, hs, hv, hends⟩ := (divsw_ends_of_fits h hw hq hm hfits).exists_flagsSZV
    exact ⟨t, he, hdata, hmem, hf, fun h0 => absurd h0 hw, fun _ hn => absurd hfits hn, fun _ _ => ⟨hv, hs, hends⟩⟩
  · obtain ⟨t, he, hdata, hmem, hf, -, hv, hends⟩ := (divsw_ends_of_not_fits h hw hq hfits).exists_flagsSZV
    exact ⟨t, he, hdata, hmem, hf, fun h0 => absurd h0 hw, fun _ _ => ⟨hv, _, _, hends⟩, fun _ hn => absurd hn hfits⟩

end Sys2Proof.Machine

/-! PROOF. Addition, subtraction and logic with their flags at any width (spec/43_unary.md R203, spec/47_alu.md R289),
and `Obligations.FlagFunctions`. -/

namespace Sys2Proof.Machine

/-! ## The signed sum leaving its range -/

section
variable {w : Nat} (x y : BitVec w) (c : Bool)

/-- A sum with carry wraps at most once. -/
theorem toNat_add_add_carry : let t := x.toNat + y.toNat + c.toNat
    (x + y + BitVec.ofNat w c.toNat).toNat = if t < 2 ^ w then t else t - 2 ^ w := by
  intro t
  have hx := x.isLt
  have hy := y.isLt
  have hc := c.toNat_le
  have hmod : (x + y + BitVec.ofNat w c.toNat).toNat = t % 2 ^ w := by
    simp only [BitVec.toNat_add, BitVec.toNat_ofNat, Nat.add_mod_mod, Nat.mod_add_mod, t]
  rw [hmod]
  split
  case isTrue h => exact Nat.mod_eq_of_lt h
  case isFalse h => rw [Nat.mod_eq_sub_mod (by omega), Nat.mod_eq_of_lt (by omega)]

/-- The signed sum leaves its range exactly where both summands have the sign that the result has not. -/
theorem signedSum_overflow (hw : 0 < w) :
    (x.msb == y.msb && (x + y + BitVec.ofNat w c.toNat).msb != x.msb) =
      decide (x.toInt + y.toInt + c.toNat < -2 ^ (w - 1) ∨ 2 ^ (w - 1) ≤ x.toInt + y.toInt + c.toNat) := by
  obtain ⟨n, rfl⟩ : ∃ n, w = n + 1 := ⟨w - 1, by omega⟩
  have hx := x.isLt
  have hy := y.isLt
  have hc := c.toNat_le
  have hr := toNat_add_add_carry x y c
  dsimp only at hr
  have hpow : (2 : Int) ^ n = (2 ^ n : Nat) := by norm_cast
  simp only [BitVec.msb_eq_decide, BitVec.toInt_eq_toNat_cond, Nat.add_sub_cancel, hpow]
  generalize (x + y + BitVec.ofNat (n + 1) c.toNat).toNat = r at *
  rw [Nat.pow_succ] at *
  generalize 2 ^ n = N at *
  rw [Bool.eq_iff_iff]
  simp only [Bool.and_eq_true, beq_iff_eq, bne_iff_ne, ne_eq, decide_eq_decide, decide_eq_true_eq]
  split at hr <;> split <;> split <;> omega

/-- Subtracting is adding the complement, with the opposite carry. -/
theorem sub_sub_eq_add_not : x - y - BitVec.ofNat w c.toNat = x + ~~~y + BitVec.ofNat w (!c).toNat := by
  rw [BitVec.not_eq_neg_add, BitVec.sub_eq_add_neg x y]
  cases c
  · simp [BitVec.add_assoc]
  · simp [BitVec.sub_eq_add_neg, BitVec.add_assoc]

/-- The complement, read signed. -/
theorem toInt_not_eq (hw : 0 < w) : (~~~y).toInt = -y.toInt - 1 := by
  have hy := y.isLt
  rw [BitVec.toInt_eq_msb_cond, BitVec.toInt_eq_msb_cond, BitVec.msb_not, BitVec.toNat_not, decide_eq_true hw]
  cases y.msb
  · change ((2 ^ w - 1 - y.toNat : Nat) : Int) - (2 ^ w : Nat) = -(y.toNat : Int) - 1
    omega
  · change ((2 ^ w - 1 - y.toNat : Nat) : Int) = -((y.toNat : Int) - (2 ^ w : Nat)) - 1
    omega

/-- The signed difference leaves its range exactly where the operands' signs differ and the result has not the first
one's. -/
theorem signedDifference_overflow (hw : 0 < w) :
    (x.msb != y.msb && (x - y - BitVec.ofNat w c.toNat).msb != x.msb) =
      decide (x.toInt - y.toInt - c.toNat < -2 ^ (w - 1) ∨ 2 ^ (w - 1) ≤ x.toInt - y.toInt - c.toNat) := by
  have hsigned : x.toInt - y.toInt - c.toNat = x.toInt + (~~~y).toInt + (!c).toNat := by
    rw [toInt_not_eq y hw]
    cases c <;> simp only [Bool.not_true, Bool.not_false, Bool.toNat_true, Bool.toNat_false] <;> omega
  have hsign : (x.msb != y.msb) = (x.msb == (~~~y).msb) := by
    rw [BitVec.msb_not, decide_eq_true hw]
    cases x.msb <;> cases y.msb <;> rfl
  rw [hsigned, hsign, sub_sub_eq_add_not, signedSum_overflow x (~~~y) (!c) hw]

end

/-! ## What `add`, `sub` and `logic` answer -/

section
variable {w : Nat} (p : Params) (x y : BitVec w) (c : Bool)

theorem addFlags_res : (addFlags p x y c).res = x + y + BitVec.ofNat w c.toNat := by
  simp only [addFlags, BitVec.ofNat_add, BitVec.ofNat_toNat, BitVec.setWidth_eq]

theorem subFlags_res : (subFlags p x y c).res = x - y - BitVec.ofNat w c.toNat := by
  simp only [subFlags, Int.sub_eq_add_neg, BitVec.ofInt_add, BitVec.ofInt_neg, BitVec.ofInt_natCast,
    BitVec.ofNat_toNat, BitVec.setWidth_eq, BitVec.sub_eq_add_neg]

theorem subFlags_c : (subFlags p x y c).c = decide (x.toNat < y.toNat + c.toNat) := by
  change decide ((x.toNat : Int) - y.toNat - c.toNat < 0) = _
  rw [decide_eq_decide]
  omega

/-- V of an addition, by the signs. -/
theorem addFlags_v_eq_msb :
    (addFlags p x y c).v = (x.msb == y.msb && (x + y + BitVec.ofNat w c.toNat).msb != x.msb) := by
  rw [← addFlags_res p]
  rfl

/-- V of a subtraction, by the signs. -/
theorem subFlags_v_eq_msb :
    (subFlags p x y c).v = (x.msb != y.msb && (x - y - BitVec.ofNat w c.toNat).msb != x.msb) := by
  rw [← subFlags_res p]
  rfl

theorem addFlags_v (hw : 0 < w) : (addFlags p x y c).v =
    decide (x.toInt + y.toInt + c.toNat < -2 ^ (w - 1) ∨ 2 ^ (w - 1) ≤ x.toInt + y.toInt + c.toNat) := by
  rw [addFlags_v_eq_msb, signedSum_overflow x y c hw]

theorem subFlags_v (hw : 0 < w) : (subFlags p x y c).v =
    decide (x.toInt - y.toInt - c.toNat < -2 ^ (w - 1) ∨ 2 ^ (w - 1) ≤ x.toInt - y.toInt - c.toNat) := by
  rw [subFlags_v_eq_msb, signedDifference_overflow x y c hw]

/-- An addition, field by field: V in the signed integers, C and H in the natural numbers (R289). -/
theorem addFlags_fields (hw : 0 < w) : let o := addFlags p x y c
    o.res = x + y + BitVec.ofNat w c.toNat ∧ o.s = decide (o.res.toInt < 0) ∧ o.z = decide (o.res = 0) ∧
    o.c = decide (2 ^ w ≤ x.toNat + y.toNat + c.toNat) ∧
    o.v = decide (x.toInt + y.toInt + c.toNat < -2 ^ (w - 1) ∨ 2 ^ (w - 1) ≤ x.toInt + y.toInt + c.toNat) ∧
    o.h = decide (p.halfMod w ≤ x.toNat % p.halfMod w + y.toNat % p.halfMod w + c.toNat) :=
  ⟨addFlags_res p x y c, BitVec.msb_eq_toInt, beq_eq_decide .., rfl, addFlags_v p x y c hw, rfl⟩

/-- A subtraction, field by field (R289). -/
theorem subFlags_fields (hw : 0 < w) : let o := subFlags p x y c
    o.res = x - y - BitVec.ofNat w c.toNat ∧ o.s = decide (o.res.toInt < 0) ∧ o.z = decide (o.res = 0) ∧
    o.c = decide (x.toNat < y.toNat + c.toNat) ∧
    o.v = decide (x.toInt - y.toInt - c.toNat < -2 ^ (w - 1) ∨ 2 ^ (w - 1) ≤ x.toInt - y.toInt - c.toNat) ∧
    o.h = decide (x.toNat % p.halfMod w < y.toNat % p.halfMod w + c.toNat) :=
  ⟨subFlags_res p x y c, BitVec.msb_eq_toInt, beq_eq_decide .., subFlags_c p x y c, subFlags_v p x y c hw, rfl⟩

/-- Flipping a bit for each member of a list that satisfies `f` tells whether their number is even. -/
theorem foldl_bne_eq_even_filter (f : Nat → Bool) (l : List Nat) (acc : Bool) :
    l.foldl (fun acc n => acc != f n) acc = (acc == decide ((l.filter f).length % 2 = 0)) := by
  induction l generalizing acc with
  | nil => simp
  | cons n l ih =>
    rw [List.foldl_cons, ih]
    cases hn : f n
    case false => simp [hn]
    case true =>
      simp only [List.filter_cons, hn, if_true, List.length_cons, Nat.succ_mod_two_eq_zero_iff, Bool.bne_true]
      cases acc <;> rcases Nat.mod_two_eq_zero_or_one (l.filter f).length with h | h <;> simp [h]

/-- Parity is 1 exactly when the number of 1 bits is even (43_unary.md R203). -/
theorem parity_eq_evenOnes : parity p x = evenOnes (p.parityBits w) x := by
  rw [parity, foldl_bne_eq_even_filter, Bool.true_beq]
  rfl

/-- A logic result, field by field (R289). -/
theorem logicFlags_fields : let o := logicFlags p x
    o.res = x ∧ o.s = decide (x.toInt < 0) ∧ o.z = decide (x = 0) ∧ o.v = evenOnes (p.parityBits w) x :=
  ⟨rfl, BitVec.msb_eq_toInt, beq_eq_decide .., parity_eq_evenOnes p x⟩

end

/-- Settles O20: the fields are as stated at every width, so at the two of the machine. -/
theorem flagFunctions : Obligations.FlagFunctions := fun p =>
  ⟨⟨fun x y c => addFlags_fields p x y c (by decide), fun x y c => subFlags_fields p x y c (by decide),
    fun x y c => addFlags_fields p x y c (by decide), fun x y c => subFlags_fields p x y c (by decide)⟩,
    logicFlags_fields p, logicFlags_fields p⟩

end Sys2Proof.Machine

/-! PROOF. The single-operand arithmetic of spec/43_unary.md: what each operation computes at any width, how an
instruction made of one ends, and `Obligations.IncDecByte`, `Obligations.IncDecWord`, `Obligations.NegCplNgcClrByte` and
`Obligations.NegCplNgcClrWord`. -/

namespace Sys2Proof.Machine

/-! ## Counting up and down (R191 to R194) -/

section
variable {w : Nat} (p : Params) (k : BitVec 3) (x : BitVec w) (f : Flags)

/-- A count, 1 to 8, fits in more than four bits. -/
theorem toNat_countOf (hw : 4 < w) : (countOf k : BitVec w).toNat = k.toNat + 1 := by
  have hpow : 2 ^ 4 < 2 ^ w := Nat.pow_lt_pow_right (by decide) hw
  have hk := k.isLt
  rw [countOf, BitVec.toNat_ofNat, Nat.mod_eq_of_lt (by omega)]

/-- Read signed it is not negative. -/
theorem msb_countOf (hw : 4 < w) : (countOf k : BitVec w).msb = false := by
  have hpow : 2 ^ 5 ≤ 2 ^ w := Nat.pow_le_pow_right (by decide) hw
  have hk := k.isLt
  rw [BitVec.msb_eq_false_iff_two_mul_lt, toNat_countOf k hw]
  omega

/-- INC adds the count; V says that the sign went from 0 to 1, and A and C stay (R191). -/
theorem incOp_eq (hw : 4 < w) : incOp p k x f =
    let r := x + countOf k
    (r, { f with
      s := r.msb, z := decide (r = 0)
      h := decide (p.halfMod w ≤ x.toNat % p.halfMod w + (k.toNat + 1) % p.halfMod w), v := !x.msb && r.msb }) := by
  have hres : (addFlags p x (countOf k) false).res = x + countOf k := by simp [addFlags_res]
  have hv : (addFlags p x (countOf k) false).v = (!x.msb && (x + countOf k).msb) := by
    rw [addFlags_v_eq_msb, ← addFlags_res p, hres, msb_countOf k hw]
    cases x.msb <;> simp
  dsimp only
  rw [← hv, ← hres, ← toNat_countOf k hw]
  rfl

/-- DEC subtracts the count; V says that the sign went from 1 to 0, and A and C stay (R192). -/
theorem decOp_eq (hw : 4 < w) : decOp p k x f =
    let r := x - countOf k
    (r, { f with
      s := r.msb, z := decide (r = 0)
      h := decide (x.toNat % p.halfMod w < (k.toNat + 1) % p.halfMod w), v := x.msb && !r.msb }) := by
  have hres : (subFlags p x (countOf k) false).res = x - countOf k := by simp [subFlags_res]
  have hv : (subFlags p x (countOf k) false).v = (x.msb && !(x - countOf k).msb) := by
    rw [subFlags_v_eq_msb, ← subFlags_res p, hres, msb_countOf k hw]
    cases x.msb <;> simp
  dsimp only
  rw [← hv, ← hres, ← toNat_countOf k hw]
  rfl

end

/-! ## Negating and complementing (R195 to R200) -/

section
variable {w : Nat} (p : Params) (x : BitVec w) (f : Flags)

/-- NGC subtracts the operand and C from zero; there is a borrow unless both are zero, and V says that the operand and
the result are both negative (R199). -/
theorem ngcOp_eq : ngcOp p x f =
    let r := -x - BitVec.ofNat w f.c.toNat
    (r, { f with
      s := r.msb, z := decide (r = 0), h := decide (0 < x.toNat % p.halfMod w + f.c.toNat)
      a := decide (0 < x.toNat + f.c.toNat), v := x.msb && r.msb, c := decide (0 < x.toNat + f.c.toNat) }) := by
  have hres : (subFlags p 0 x f.c).res = -x - BitVec.ofNat w f.c.toNat := by simp [subFlags_res]
  have hh : (subFlags p 0 x f.c).h = decide (0 < x.toNat % p.halfMod w + f.c.toNat) := by simp [subFlags]
  have hc : (subFlags p 0 x f.c).c = decide (0 < x.toNat + f.c.toNat) := by simp [subFlags_c]
  have hv : (subFlags p 0 x f.c).v = (x.msb && (-x - BitVec.ofNat w f.c.toNat).msb) := by
    rw [subFlags_v_eq_msb, ← subFlags_res p, hres]
    simp
  dsimp only
  rw [← hv, ← hres, ← hh, ← hc]
  rfl

/-- The most negative word alone is negative with its negation. -/
theorem msb_and_msb_neg (hw : 0 < w) : (x.msb && (-x).msb) = decide (x = BitVec.intMin w) := by
  rw [BitVec.msb_neg]
  cases hx : x.msb
  case false =>
    have hne : x ≠ BitVec.intMin w := by
      rintro rfl
      simp [BitVec.msb_intMin, hw] at hx
    simp [hne]
  case true =>
    have hne : x ≠ 0#w := by
      rintro rfl
      simp at hx
    rw [bne_iff_ne.mpr hne, bne, Bool.true_and, Bool.xor_true, Bool.true_and, Bool.not_not, beq_eq_decide]

/-- NEG is NGC without the C before it (R195). -/
theorem negOp_eq (hw : 0 < w) : negOp p x f =
    (-x, { f with
      s := (-x).msb, z := decide (x = 0), h := decide (x.toNat % p.halfMod w ≠ 0), a := decide (x ≠ 0)
      v := decide (x = BitVec.intMin w), c := decide (x ≠ 0) }) := by
  have hpos : 0 < x.toNat ↔ x ≠ 0 := by
    rw [Nat.pos_iff_ne_zero, ne_eq, ne_eq, ← BitVec.toNat_inj]
    rfl
  have h : negOp p x f = ngcOp p x { f with c := false } := rfl
  rw [h, ngcOp_eq]
  simp [msb_and_msb_neg x hw, hpos, Nat.pos_iff_ne_zero]

/-- CPL inverts every bit; V is the parity of the result (R197). -/
theorem cplOp_eq (hw : 0 < w) : cplOp p x f =
    (~~~x, { f with s := !x.msb, z := decide (x = BitVec.allOnes w), v := evenOnes (p.parityBits w) (~~~x) }) := by
  have hs : topBit (~~~x) = !x.msb := by simp [topBit, BitVec.msb_not, hw]
  have hz : (~~~x == 0) = decide (x = BitVec.allOnes w) := by
    rw [beq_eq_decide, decide_eq_decide, BitVec.not_eq_comm]
    simp
  rw [← hs, ← hz, ← parity_eq_evenOnes]
  rfl

end

/-! ## Instructions that rewrite one operand -/

section
variable {i : Instr} {s : State} {col : AColumn} {own : Option Bool} {vOpen : Bool} {f g : Flags}

/-- An instruction that rewrites a byte by an operation with result `v` and flags `g` ends with them. -/
theorem modify8_ends {dst : Loc8} {op : Byte → Flags → Byte × Flags} {v : Byte}
    (hi : exec i s = .next (s.modify8 col dst op)) (hop : op (s.readLoc8 dst) s.f = (v, g))
    (hc : ColumnSays col own s.f.a g) (hf : SameBesidesA vOpen f g) : Ends8 i s none dst v vOpen own f := by
  refine ends8_of (s' := s) rfl ?_ hc hf
  rw [hi, State.modify8, hop, loc8Auto_eq]
  rfl

/-- An instruction that rewrites an even word by an operation with result `v` and flags `g` ends with them. -/
theorem modify16_ends {dst : Loc16} {op : Word → Flags → Word × Flags} {v : Word} (h : EvenMem s dst.memory)
    (hi : exec i s = modify16 col dst op s) (hop : op (s.readLoc16 dst) s.f = (v, g))
    (hc : ColumnSays col own s.f.a g) (hf : SameBesidesA vOpen f g) : Ends16 i s none dst v vOpen own f := by
  refine ends16_of (s' := s) rfl ?_ hc hf
  rw [hi, modify16, hop, whenAligned_loc16Ea h, loc16Auto_eq]
  rfl

/-- An instruction that is a byte store ends with the byte in its destination and F kept, A left to the auto-index. -/
theorem store8_ends {dst : Loc8} {v : Byte} (hi : exec i s = .next (s.store8 dst v)) :
    Ends8 i s none dst v false none s.f := by
  refine ends8_of (s' := s) (col := .star) (g := s.f) rfl ?_ (.inl ⟨rfl, rfl, rfl⟩) rfl
  rw [hi, State.store8, loc8Auto_eq, State.setF_of_f (s.writeLoc8_f dst v s)]
  rfl

end

/-- Settles O30: `incOp_eq` and `decOp_eq` at 8 bits, where a count is less than the half-carry modulus 16. -/
theorem incDecByte : Obligations.IncDecByte := by
  intro k dst s d
  have hcount : (k.toNat + 1) % 16 = k.toNat + 1 := Nat.mod_eq_of_lt (by omega)
  have hinc := incOp_eq s.params k d s.f (by decide)
  have hdec := decOp_eq s.params k d s.f (by decide)
  simp only [Params.halfMod_8, hcount] at hinc hdec
  exact ⟨modify8_ends (exec_inc k dst s) hinc (.inl ⟨rfl, rfl, rfl⟩) rfl,
    modify8_ends (exec_dec k dst s) hdec (.inl ⟨rfl, rfl, rfl⟩) rfl⟩

/-- Settles O31: a register writes A alone, as `incRegOp` and `decRegOp` say; a memory word counts by `incOp_eq` and
`decOp_eq`. -/
theorem incDecWord : Obligations.IncDecWord := by
  intro k s n hm
  refine ⟨fun r => ?_, fun m h => ?_⟩
  · have h : EvenMem s (Loc16.reg r).memory := fun _ hx => nomatch hx
    exact ⟨modify16_ends h (exec_incw k (.reg r) s) rfl (.inr ⟨rfl, rfl⟩) rfl,
      modify16_ends h (exec_decw k (.reg r) s) rfl (.inr ⟨rfl, rfl⟩) rfl⟩
  · exact ⟨modify16_ends h (exec_incw k (.mem m) s) (incOp_eq _ k _ s.f (by decide)) (.inl ⟨rfl, rfl, rfl⟩) rfl,
      modify16_ends h (exec_decw k (.mem m) s) (decOp_eq _ k _ s.f (by decide)) (.inl ⟨rfl, rfl, rfl⟩) rfl⟩

/-- Settles O32: NEG, CPL and NGC by their equations at 8 bits; CLR is a byte store. -/
theorem negCplNgcClrByte : Obligations.NegCplNgcClrByte := fun dst s =>
  ⟨modify8_ends (exec_neg dst s) (negOp_eq _ _ s.f (by decide)) (.inr ⟨rfl, rfl⟩) rfl,
    modify8_ends (exec_cpl dst s) (cplOp_eq _ _ s.f (by decide)) (.inl ⟨rfl, rfl, rfl⟩) rfl,
    modify8_ends (exec_ngc dst s) (ngcOp_eq _ _ s.f) (.inr ⟨rfl, rfl⟩) rfl,
    store8_ends (exec_clr dst s)⟩

/-- Settles O33: NEGW, CPLW and NGCW by the same equations at 16 bits; CLRW is a word store. -/
theorem negCplNgcClrWord : Obligations.NegCplNgcClrWord := fun dst s h =>
  ⟨modify16_ends h (exec_negw dst s) (negOp_eq _ _ s.f (by decide)) (.inr ⟨rfl, rfl⟩) rfl,
    modify16_ends h (exec_cplw dst s) (cplOp_eq _ _ s.f (by decide)) (.inl ⟨rfl, rfl, rfl⟩) rfl,
    modify16_ends h (exec_ngcw dst s) (ngcOp_eq _ _ s.f) (.inr ⟨rfl, rfl⟩) rfl,
    store16_ends h (exec_clrw dst s)⟩

end Sys2Proof.Machine

/-! PROOF. The shifts, rotates and bit operations of spec/44_shift_bit.md: what each computes at any width, how an
instruction made of one ends, and `Obligations.ByteShifts`, `Obligations.WordShifts` and `Obligations.BitInstructions`.
-/

namespace Sys2Proof.Machine

/-! ## One place to the left or right -/

section
variable {w : Nat} (x : BitVec w) (b : Bool) {i : Nat}

/-- Bit 0 is the one that enters, every other bit comes from the place below. -/
theorem getLsbD_shiftLeftIn (hi : i < w) : (shiftLeftIn x b).getLsbD i = if i = 0 then b else x.getLsbD (i - 1) := by
  obtain rfl | hpos := Nat.eq_zero_or_pos i
  · cases b <;> simp [shiftLeftIn, hi]
  · have hprev : i - 1 < w := by omega
    cases b <;> simp [shiftLeftIn, hi, hpos.ne', hprev]

/-- The top bit is the one that enters, every other bit comes from the place above. -/
theorem getLsbD_shiftRightIn (hi : i < w) :
    (shiftRightIn x b).getLsbD i = if i + 1 < w then x.getLsbD (i + 1) else b := by
  by_cases h : i + 1 < w
  · have hlow : i < w - 1 := by omega
    cases b <;> simp [shiftRightIn, h, hlow, Nat.add_comm 1 i]
  · obtain rfl : i = w - 1 := by omega
    have htop : w ≤ 1 + (w - 1) := by omega
    cases b <;> simp [shiftRightIn, h, hi, BitVec.getLsbD_of_ge x _ htop]

@[simp] theorem shiftLeftIn_false : shiftLeftIn x false = x <<< 1 := by simp [shiftLeftIn]

@[simp] theorem shiftRightIn_false : shiftRightIn x false = x >>> 1 := by simp [shiftRightIn]

/-- The top bit entering at bit 0 is a rotation to the left. -/
theorem shiftLeftIn_msb (hw : 1 < w) : shiftLeftIn x x.msb = x.rotateLeft 1 := by
  refine BitVec.eq_of_getLsbD_eq fun i hi => ?_
  rw [getLsbD_shiftLeftIn x _ hi, BitVec.getLsbD_rotateLeft, Nat.mod_eq_of_lt hw, BitVec.msb_eq_getLsbD_last]
  obtain rfl | hpos := Nat.eq_zero_or_pos i
  · simp
  · simp [hpos.ne', hi]

/-- Bit 0 entering at the top bit is a rotation to the right. -/
theorem shiftRightIn_bit0 (hw : 1 < w) : shiftRightIn x (x.getLsbD 0) = x.rotateRight 1 := by
  refine BitVec.eq_of_getLsbD_eq fun i hi => ?_
  rw [getLsbD_shiftRightIn x _ hi, BitVec.getLsbD_rotateRight, Nat.mod_eq_of_lt hw]
  by_cases h : i + 1 < w
  · have hlow : i < w - 1 := by omega
    simp [h, hlow, Nat.add_comm 1 i]
  · obtain rfl : i = w - 1 := by omega
    simp [h, hi]

/-- The top bit entering again at the top is the arithmetic shift. -/
theorem shiftRightIn_msb : shiftRightIn x x.msb = x.sshiftRight 1 := by
  refine BitVec.eq_of_getLsbD_eq fun i hi => ?_
  rw [getLsbD_shiftRightIn x _ hi, BitVec.getLsbD_sshiftRight]
  simp [hi, Nat.add_comm 1 i]

/-- Exchanging the halves is a rotation by half the width. -/
theorem swapHalves_eq_rotateLeft (hw : w % 2 = 0) : x <<< (w / 2) ||| x >>> (w / 2) = x.rotateLeft (w / 2) := by
  obtain rfl | hpos := Nat.eq_zero_or_pos w
  · exact Subsingleton.elim _ _
  · rw [BitVec.rotateLeft_def, Nat.mod_eq_of_lt (by omega), show w - w / 2 = w / 2 by omega]

end

/-! ## The operations (R211 to R218, R223 to R230) -/

section
variable {w : Nat} (v : Bool) (x : BitVec w) (f : Flags)

/-- RLC rotates to the left, its top bit into C and A (R211). -/
theorem rlcOp_eq (hw : 1 < w) : rlcOp v x f = (x.rotateLeft 1, f.putShift (x.rotateLeft 1) x.msb v) := by
  rw [← shiftLeftIn_msb x hw]
  rfl

/-- RRC rotates to the right, bit 0 into C and A (R212). -/
theorem rrcOp_eq (hw : 1 < w) : rrcOp v x f = (x.rotateRight 1, f.putShift (x.rotateRight 1) (x.getLsbD 0) v) := by
  rw [← shiftRightIn_bit0 x hw]
  rfl

/-- SLA shifts to the left; V says that the sign changed (R215, decision D28). -/
theorem slaOp_eq : slaOp x f = (x <<< 1, f.putShift (x <<< 1) x.msb (x.msb != x.getLsbD (w - 2))) := by
  rw [← shiftLeftIn_false]
  rfl

/-- SRA is the arithmetic shift to the right, and clears V (R216). -/
theorem sraOp_eq : sraOp x f = (x.sshiftRight 1, f.putShift (x.sshiftRight 1) (x.getLsbD 0) false) := by
  rw [← shiftRightIn_msb]
  rfl

/-- SRL is the logical shift to the right (R218). -/
theorem srlOp_eq : srlOp v x f = (x >>> 1, f.putShift (x >>> 1) (x.getLsbD 0) v) := by
  rw [← shiftRightIn_false]
  rfl

/-- SWAP rotates by half the width, and writes S and Z alone (R217). -/
theorem swapOp_eq (hw : w % 2 = 0) : swapOp x f = (x.rotateLeft (w / 2), f.putSZ (x.rotateLeft (w / 2))) := by
  rw [← swapHalves_eq_rotateLeft x hw]
  rfl

end

/-! ## Shifts that leave V free (R210) -/

section
variable (s : State)

/-! A draw moves no operand and changes none. -/

@[simp] theorem State.drawn_readLoc8 (l : Loc8) : s.drawn.readLoc8 l = s.readLoc8 l := by
  cases l <;> simp [State.readLoc8] <;> rfl

@[simp] theorem State.drawn_readLoc16 (l : Loc16) : s.drawn.readLoc16 l = s.readLoc16 l := by
  cases l <;> simp [State.readLoc16] <;> rfl

@[simp] theorem State.drawn_writeLoc8 (l : Loc8) (x : Byte) (t : State) :
    s.drawn.writeLoc8 l x t = s.writeLoc8 l x t := by
  cases l <;> simp [State.writeLoc8]

@[simp] theorem State.drawn_writeLoc16 (l : Loc16) (x : Word) (t : State) :
    s.drawn.writeLoc16 l x t = s.writeLoc16 l x t := by
  cases l <;> simp [State.writeLoc16]

@[simp] theorem State.drawn_loc16Ea (l : Loc16) : s.drawn.loc16Ea l = s.loc16Ea l := by
  cases l <;> simp [State.loc16Ea]

end

section
variable {i : Instr} {s : State} {out v : Bool}

/-- A byte shift that draws V ends with its result, the bit shifted out in C and A, and any V. -/
theorem drawnShift8_ends {dst : Loc8} {op : Byte → Flags → Byte × Flags} {r : Byte}
    (hi : exec i s = .next (s.drawn.modify8 .own dst op))
    (hop : op (s.readLoc8 dst) s.f = (r, s.f.putShift r out v)) :
    Ends8 i s none dst r true (some out) { s.f with s := r.msb, z := decide (r = 0), v := false, c := out } := by
  refine ends8_of (s' := s.drawn) (col := .own) (g := s.f.putShift r out v) rfl ?_ (.inr ⟨rfl, rfl⟩) rfl
  rw [hi, State.modify8, State.drawn_readLoc8, State.drawn_f, hop, State.drawn_writeLoc8, loc8Auto_eq]
  rfl

/-- A shift of an even word that draws V ends with its result, the bit shifted out in C and A, and any V. -/
theorem drawnShift16_ends {dst : Loc16} {op : Word → Flags → Word × Flags} {r : Word} (h : EvenMem s dst.memory)
    (hi : exec i s = modify16 .own dst op s.drawn)
    (hop : op (s.readLoc16 dst) s.f = (r, s.f.putShift r out v)) :
    Ends16 i s none dst r true (some out) { s.f with s := r.msb, z := decide (r = 0), v := false, c := out } := by
  refine ends16_of (s' := s.drawn) (col := .own) (g := s.f.putShift r out v) rfl ?_ (.inr ⟨rfl, rfl⟩) rfl
  rw [hi, modify16, State.drawn_readLoc16, State.drawn_f, hop, State.drawn_loc16Ea, State.drawn_params,
    whenAligned_loc16Ea h, State.drawn_writeLoc16, loc16Auto_eq]
  rfl

end

/-- Settles O34: the operations by their equations at 8 bits; RL and RR shift C in as they stand. -/
theorem byteShifts : Obligations.ByteShifts := fun dst s =>
  ⟨drawnShift8_ends (exec_rlc dst s) (rlcOp_eq _ _ s.f (by decide)),
    drawnShift8_ends (exec_rrc dst s) (rrcOp_eq _ _ s.f (by decide)),
    drawnShift8_ends (exec_rl dst s) rfl,
    drawnShift8_ends (exec_rr dst s) rfl,
    modify8_ends (exec_sla dst s) (slaOp_eq _ s.f) (.inr ⟨rfl, rfl⟩) rfl,
    modify8_ends (exec_sra dst s) (sraOp_eq _ s.f) (.inr ⟨rfl, rfl⟩) rfl,
    modify8_ends (exec_swap dst s) (swapOp_eq _ s.f rfl) (.inl ⟨rfl, rfl, rfl⟩) rfl,
    drawnShift8_ends (exec_srl dst s) (srlOp_eq _ _ s.f)⟩

/-- Settles O35: the operations by the same equations at 16 bits. -/
theorem wordShifts : Obligations.WordShifts := fun dst s h =>
  ⟨drawnShift16_ends h (exec_rlcw dst s) (rlcOp_eq _ _ s.f (by decide)),
    drawnShift16_ends h (exec_rrcw dst s) (rrcOp_eq _ _ s.f (by decide)),
    drawnShift16_ends h (exec_rlw dst s) rfl,
    drawnShift16_ends h (exec_rrw dst s) rfl,
    modify16_ends h (exec_slaw dst s) (slaOp_eq _ s.f) (.inr ⟨rfl, rfl⟩) rfl,
    modify16_ends h (exec_sraw dst s) (sraOp_eq _ s.f) (.inr ⟨rfl, rfl⟩) rfl,
    modify16_ends h (exec_swapw dst s) (swapOp_eq _ s.f rfl) (.inl ⟨rfl, rfl, rfl⟩) rfl,
    drawnShift16_ends h (exec_srlw dst s) (srlOp_eq _ _ s.f)⟩

/-! ## BIT, RES and SET (R219 to R222) -/

section
variable {i : Instr} {s : State} (b : BitVec 3)

/-- An instruction that is a bit test ends with Z the complement of the bit, nothing else written. -/
theorem testBit_ends {src : Src8} (hi : exec i s = .next (s.testBit b src)) :
    EndsReading i s 1 src.memory none s none { s.f with z := !(s.readSrc8 src).getLsbD b.toNat } := by
  refine endsReading_of_regs (n := s.fresh) rfl rfl ?_
  rw [hi, State.testBit, src8Auto_eq]
  rfl

/-- An instruction that is RES or SET ends with the byte `BitOp.result` gives, and Z of the bit as it was. -/
theorem changeBit_ends (op : BitOp) {dst : Loc8} (hi : exec i s = .next (s.changeBit op b dst)) :
    Ends8 i s none dst (op.result b (s.readLoc8 dst)) false none
      { s.f with z := !(s.readLoc8 dst).getLsbD b.toNat } :=
  modify8_ends hi rfl (.inl ⟨rfl, rfl, rfl⟩) rfl

end

/-- Settles O36: both forms by `testBit_ends` and `changeBit_ends`, the bit number read at the start in each. -/
theorem bitInstructions : Obligations.BitInstructions := fun s =>
  ⟨fun src b r => ⟨testBit_ends b (exec_bitImm b src s), testBit_ends (s.bitNumber r) (exec_bitAcc r src s)⟩,
    fun dst b r => ⟨changeBit_ends b .res (exec_resImm b dst s), changeBit_ends b .set (exec_setImm b dst s),
      changeBit_ends (s.bitNumber r) .res (exec_resAcc r dst s),
      changeBit_ends (s.bitNumber r) .set (exec_setAcc r dst s)⟩⟩

end Sys2Proof.Machine

/-! PROOF. The loads of spec/45_load.md between operands, to and from the special registers and the port, and of
immediates: `Obligations.Loads`, `Obligations.LoadFromSpecial`, `Obligations.LoadToSpecial` and
`Obligations.ImmediateLoads`. -/

namespace Sys2Proof.Machine

/-! ## Between any two operands (R240, R241) -/

/-- Settles O39: the destination is written with F as it stands, and the auto-index that ends the instruction is the
source's and then the destination's (R252). -/
theorem loads : Obligations.Loads := by
  refine ⟨fun dst src s => ?_, fun dst src s hsrc hdst => ?_⟩
  · refine ends8_of (s' := s) (col := .star) (g := s.f) rfl ?_ (.inl ⟨rfl, rfl, rfl⟩) rfl
    rw [exec_ld, execLd, src8Auto_eq, loc8Auto_eq, State.setF_of_f (s.writeLoc8_f dst _ s)]
  · refine ends16_of (s' := s) (col := .star) (g := s.f) rfl ?_ (.inl ⟨rfl, rfl, rfl⟩) rfl
    rw [exec_ldw, execLdw, whenAligned_src16Ea hsrc, whenAligned_loc16Ea hdst, src16Auto_eq, loc16Auto_eq,
      State.setF_of_f (s.writeLoc16_f dst _ s)]

/-! ## Clauses about an instruction's end, one by one -/

/-- Changes of data alone compose. -/
theorem DataOnly.trans {s u t : State} (h : DataOnly s u) (h' : DataOnly u t) : DataOnly s t := by
  unfold DataOnly at h h' ⊢
  rw [h', h]

/-- The auto-indexing that ends an instruction changes data only. -/
theorem State.autoIndex_dataOnly (u : State) (col : AColumn) (w : Nat) (src dst : Option AutoIndex) :
    DataOnly u (u.autoIndex col w src dst) := by
  apply dataOnly_of <;> simp

/-- What `RegsAre` says of the state before the auto-index depends on its 16-bit registers and C only. -/
theorem RegsAre.congr {t u u' : State} {w : Nat} {src dst : Option Mem} (hr : u.reg16 = u'.reg16)
    (hc : u.regs.c = u'.regs.c) (h : RegsAre t w src dst u) : RegsAre t w src dst u' := by
  unfold RegsAre at h ⊢
  rwa [hr, hc] at h

/-- C is in none of the 16-bit registers. -/
@[simp] theorem State.setC_reg16 (s : State) (v : Byte) : (s.setC v).reg16 = s.reg16 := by
  funext r
  cases r <;> rfl

/-! ## From F, C, E and the port (R247) -/

section
variable (s : State) (dst : Loc8)

/-- Writing a destination gives the 16-bit registers of `State.withReg8`, in any state `u` with the registers and SP of
`s`. -/
theorem State.writeLoc8_reg16 (v : Byte) {u : State} (hr : u.regs = s.regs) (hsp : u.spHi = s.spHi) :
    (s.writeLoc8 dst v u).reg16 = (s.withReg8 dst v).reg16 := by
  cases dst with
  | reg q =>
    have hq : (u.setReg8 q v).regs = (s.setReg8 q v).regs := by cases q <;> simp [State.setReg8, hr]
    exact funext (State.reg16_congr hq (by simpa [State.withReg8] using hsp))
  | mem m => exact funext (State.reg16_congr hr hsp)

@[simp] theorem State.withReg8_params (v : Byte) : (s.withReg8 dst v).params = s.params := by
  cases dst <;> simp [State.withReg8]

/-- A port read takes an answer, logs it, and else changes data only (20_memory.md R62). -/
theorem State.portRead_dataOnly : DataOnly (s.afterPortRead s.portIn) s.portRead := by
  rw [s.portRead_eq_afterPortRead]
  rfl

variable (step : Byte)

/-- What a load from the port has written when only its auto-index is left: the answer taken, the destination, C
(R247). -/
def State.portLoaded : State := (s.writeLoc8 dst s.portIn s.portRead).setC (s.regs.c + step)

theorem State.loadPort_eq :
    s.loadPort dst step =
      (s.portLoaded dst step).autoIndex .star 1 ((none : Option Mem).bind memAuto) (dst.memory.bind memAuto) := by
  simp [State.loadPort, State.portLoaded, loc8Auto_eq]

theorem State.portLoaded_dataOnly : DataOnly (s.afterPortRead s.portIn) (s.portLoaded dst step) :=
  s.portRead_dataOnly.trans (by apply dataOnly_of <;> simp [State.portLoaded])

theorem State.portLoaded_reg16 : (s.portLoaded dst step).reg16 = (s.withReg8 dst s.portIn).reg16 :=
  (State.setC_reg16 ..).trans (s.writeLoc8_reg16 dst _ s.portRead_regs s.portRead_spHi)

@[simp] theorem State.portLoaded_f : (s.portLoaded dst step).f = s.f := by simp [State.portLoaded]

/-- A load from the port ends with the answer in its destination, C stepped and then the destination's pointer (R247,
20_memory.md R86). -/
theorem loadPort_ends : let t := s.loadPort dst step
    DataOnly (s.afterPortRead s.portIn) t ∧
      RegsAre t 1 none dst.memory ((s.withReg8 dst s.portIn).setC (s.regs.c + step)) ∧
      Stored8 s t dst.memory s.portIn ∧ FlagsBesidesA t false s.f ∧
      FlagAIs t 1 none dst.memory (s.withReg8 dst s.portIn) s.f.a none := by
  have hreg := s.portLoaded_reg16 dst step
  have hf := s.portLoaded_f dst step
  rw [State.loadPort_eq]
  refine ⟨(s.portLoaded_dataOnly dst step).trans (State.autoIndex_dataOnly ..), ?_, ?_,
    hf ▸ State.autoIndex_besidesA .., ?_⟩
  · exact (State.autoIndex_regsAre ..).congr (hreg.trans (State.setC_reg16 ..).symm) rfl
  · exact s.writeLoc8_stored dst s.portIn s.portRead_mem (by simp [State.portLoaded])
  · exact hf ▸ (State.autoIndex_star_a _ 1 none dst.memory).congr (congrFun hreg) (by simp [State.portLoaded])

end

/-- Settles O40: F, C and E are byte stores; the port answers `State.portIn`, and its loads end by `loadPort_ends`. -/
theorem loadFromSpecial : Obligations.LoadFromSpecial := fun dst s =>
  ⟨store8_ends (exec_ldFromF dst s), store8_ends (exec_ldFromC dst s), store8_ends (exec_ldFromE dst s),
    ⟨_, _, exec_ldFromPort dst s, s.portIn_portAnswer, loadPort_ends s dst 0⟩,
    ⟨_, _, exec_ldFromPortInc dst s, s.portIn_portAnswer, loadPort_ends s dst 1⟩,
    ⟨_, _, exec_ldFromPortDec dst s, s.portIn_portAnswer, loadPort_ends s dst (-1)⟩⟩

/-! ## To C, E, F and the port (R248, R249) -/

section
variable (s : State) (src : Src8)

/-- An instruction that writes a field outside the data, and then only steps its source, ends with the registers of `s`
stepped, F kept but for A, and nothing stored. -/
theorem sourceStep_ends {u : State} (hregs : u.regs = s.regs) (hsp : u.spHi = s.spHi) (hf : u.f = s.f)
    (hmem : u.mem = s.mem) (hp : u.params = s.params) : let t := u.autoIndex .star 1 (src8Auto src) none
    DataOnly u t ∧ RegsAre t 1 src.memory none s ∧ MemoryKept [] s t ∧ FlagsBesidesA t false s.f ∧
      FlagAIs t 1 src.memory none s s.f.a none := by
  have hreg : u.reg16 = s.reg16 := funext (State.reg16_congr hregs hsp)
  rw [src8Auto_eq]
  refine ⟨u.autoIndex_dataOnly .., (State.autoIndex_regsAre u _ _ _ none).congr hreg (by rw [hregs]), ?_,
    hf ▸ State.autoIndex_besidesA .., hf ▸ (State.autoIndex_star_a u 1 src.memory none).congr (congrFun hreg) hp⟩
  intro a _
  simp [State.readByte, hmem]

/-- A store to the port logs the write, steps the source's pointer and then C (R248, R86). -/
theorem storePort_ends (step : Byte) : let v := s.readSrc8 src
    let t := s.storePort src step
    DataOnly { s with ioLog := .write s.regs.c v :: s.ioLog } t ∧
      RegsAre t 1 src.memory none (s.setC (s.regs.c + step)) ∧ MemoryKept [] s t ∧
      FlagsBesidesA t false s.f ∧ FlagAIs t 1 src.memory none s s.f.a none := by
  intro v t
  obtain ⟨hdata, ⟨hregs, hc⟩, hmem, hflags, ha⟩ :=
    sourceStep_ends s src (u := s.portWrite v) rfl rfl rfl rfl rfl
  exact ⟨DataOnly.trans hdata rfl, ⟨by simpa [t, State.storePort] using hregs, congrArg (· + step) hc⟩,
    hmem, hflags, ha⟩

end

/-- Settles O41: C and F are register and flag writes before the source's step, E a write outside the data; the port's
stores end by `storePort_ends`. -/
theorem loadToSpecial : Obligations.LoadToSpecial := by
  intro src s v ports
  refine ⟨?_, ⟨_, exec_ldE src s, sourceStep_ends s src rfl rfl rfl rfl rfl⟩, ?_,
    ⟨_, exec_ldPort src s, storePort_ends s src 0⟩, ⟨_, exec_ldPortInc src s, storePort_ends s src 1⟩,
    ⟨_, exec_ldPortDec src s, storePort_ends s src (-1)⟩⟩
  · refine endsReading_of_regs (n := s.fresh) rfl rfl ?_
    rw [exec_ldC, execLdC, src8Auto_eq]
    rfl
  · refine endsReading_of (u' := s) (g := Flags.ofByte v) (col := .own) rfl (fun _ => rfl) rfl rfl rfl ?_
      (.inr ⟨rfl, rfl⟩) rfl
    rw [exec_ldF, execLdF, src8Auto_eq]
    rfl

/-! ## Immediates (R242, R250, R251) -/

/-- The words of the immediate loads (30_encoding.md R117). -/
theorem immediateLoad_words (v : Byte) :
    ∀ p ∈ [((0x7000 : Word), Instr.ldRegImm .a v), (0x7100, .ldRegImm .h v), (0x7200, .ldRegImm .i v),
        (0x7300, .ldRegImm .d v), (0x7400, .ldRegImm .b v), (0x7500, .ldRegImm .l v), (0x7600, .ldRegImm .x v),
        (0x7700, .ldRegImm .s v), (0x4000, .ldCImm v), (0x4100, .addCImm v)],
      p.2.wf = true ∧ p.2.byteLength = 2 ∧ (p.1 ||| v.zeroExtend 16) = BitVec.ofNat 16 p.2.opcode := by
  have hreg : ∀ r : Reg8, (BitVec.ofNat 16 (2 ^ 8 * (0x70 + r.ldCode)) ||| v.zeroExtend 16) =
      BitVec.ofNat 16 (Instr.ldRegImm r v).opcode := fun r => by
    rw [ofNat_or_byte, Instr.opcode]
    congr 1
    omega
  simp only [List.forall_mem_cons, List.not_mem_nil, false_imp_iff, implies_true, and_true]
  exact ⟨⟨rfl, rfl, hreg .a⟩, ⟨rfl, rfl, hreg .h⟩, ⟨rfl, rfl, hreg .i⟩, ⟨rfl, rfl, hreg .d⟩, ⟨rfl, rfl, hreg .b⟩,
    ⟨rfl, rfl, hreg .l⟩, ⟨rfl, rfl, hreg .x⟩, ⟨rfl, rfl, hreg .s⟩, ⟨rfl, rfl, ofNat_or_byte 0x40 v⟩,
    ⟨rfl, rfl, ofNat_or_byte 0x41 v⟩⟩

/-- Settles O38: one register is written, as `State.setReg8` and `State.setC` do, and the steps are `step_of_opcode` on
each of the ten words. -/
theorem immediateLoads : Obligations.ImmediateLoads := by
  refine fun v s => ⟨fun r => ?_, rfl, rfl, ?_⟩
  · exact ⟨_, exec_ldRegImm r v s, by cases r <;> rfl, s.setReg8_reg8_same r v,
      fun q hq => s.setReg8_reg8_other v hq, s.setReg8_c r v⟩
  · intro p hp hrun hq hw
    obtain ⟨hwf, hlen, hop⟩ := immediateLoad_words v p hp
    exact step_of_opcode hwf hlen hrun hq (hw.trans hop)

end Sys2Proof.Machine

/-! PROOF. The stack instructions of spec/46_stack.md (R260 to R267): the words on the stack, top first, what pushes put
there and pops take off, and `Obligations.PushPop`, `Obligations.PushPopGroups` and `Obligations.PopUndoesPush`. -/

namespace Sys2Proof.Machine

/-! ## The words on the stack -/

/-- The word `k` below the top of the stack, which is word 0 (20_memory.md R85). -/
def State.stackWord (s : State) (k : Nat) : Word := s.read16 (Ea.bank0 (s.sp + BitVec.ofNat 16 (2 * k)))

theorem State.stackWord_zero (s : State) : s.stackWord 0 = s.top16 := by
  simp [State.stackWord, State.top16]

/-- What memory reads depends on memory only. -/
theorem State.read16_congr {s t : State} (h : t.mem = s.mem) (ea : Ea) : t.read16 ea = s.read16 ea := by
  simp only [State.read16, State.readByte, h]

/-- The top of the stack depends on SP and memory only. -/
theorem State.top16_congr {s t : State} (hsp : t.sp = s.sp) (hmem : t.mem = s.mem) : t.top16 = s.top16 := by
  rw [State.top16, hsp, State.read16_congr hmem, State.top16]

/-- SP has no bit beside its upper 15 (10_state.md R26). -/
theorem State.spHi_of_sp {s t : State} (h : t.sp = s.sp) : t.spHi = s.spHi := by
  rw [← extract_high t.spHi, ← extract_high s.spHi]
  exact congrArg (BitVec.extractLsb' 1 15) h

section
variable (s : State)

/-- The byte at SP is the low byte of the top word. -/
theorem State.loByte_top16 : loByte s.top16 = s.readByte (0#8 ++ s.sp) := by
  rw [State.top16, State.read16, loByte_pair, Ea.bank0, Ea.inBank_byte, BitVec.add_zero]
  rfl

/-- The byte above SP is the high byte of the top word. -/
theorem State.hiByte_top16 : hiByte s.top16 = s.readByte (0#8 ++ (s.sp + 1)) := by
  rw [State.top16, State.read16, hiByte_pair, Ea.bank0, Ea.inBank_byte]
  rfl

/-- In a canonical memory the word last pushed is on top. -/
theorem State.push16_top16 (h : s.mem.wf = true) (v : Word) : (s.push16 v).top16 = v := by
  rw [State.top16, State.push16_sp]
  exact State.read16_write16_same (s.setSp _) h _ v

/-- A push moves every word one place down, but for one that SP wraps around to. -/
theorem State.push16_stackWord (v : Word) {k : Nat} (hk : k + 1 < 2 ^ 15) :
    (s.push16 v).stackWord (k + 1) = s.stackWord k := by
  have hsp : (s.push16 v).sp + BitVec.ofNat 16 (2 * (k + 1)) = s.sp + BitVec.ofNat 16 (2 * k) := by
    rw [State.push16_sp]
    bv_omega
  have hother : ∀ n < 2, (Ea.bank0 (s.sp + BitVec.ofNat 16 (2 * k))).byte n ∉ s.pushBytes 1 := by
    intro n hn
    simp only [State.pushBytes, Ea.bytes16, List.mem_cons, List.not_mem_nil, or_false, not_or]
    constructor <;> apply Ea.bank0_byte_ne <;> bv_omega
  rw [State.stackWord, hsp, State.read16, s.readByte_push16_other v (hother 1 (by decide)),
    s.readByte_push16_other v (hother 0 (by decide))]
  rfl

end

/-! ## What pushes leave on the stack -/

/-- Memory is canonical and the stack of `u` begins with the words `ws`, the top first. -/
structure StackHolds (ws : List Word) (u : State) : Prop where
  canonical : u.mem.wf = true
  word : ∀ (k : Nat) (w : Word), ws[k]? = some w → u.stackWord k = w

theorem StackHolds.nil {u : State} (h : u.mem.wf = true) : StackHolds [] u := ⟨h, fun _ _ hw => nomatch hw⟩

section
variable {ws : List Word} {u : State} (h : StackHolds ws u)
include h

theorem StackHolds.push16 (hlen : ws.length < 2 ^ 15) (v : Word) : StackHolds (v :: ws) (u.push16 v) := by
  refine ⟨u.push16_wf h.canonical v, fun k w hw => ?_⟩
  cases k with
  | zero => exact (State.stackWord_zero _).trans ((u.push16_top16 h.canonical v).trans (Option.some.inj hw))
  | succ k =>
    obtain ⟨hk, -⟩ := List.getElem?_eq_some_iff.mp (show ws[k]? = some w from hw)
    exact (u.push16_stackWord v (by omega)).trans (h.word k w hw)

/-- The pairs of a register set lie in the order DS, IX, HL, AB from the top (R262, R263). -/
theorem StackHolds.pushPairs (hlen : ws.length + 3 < 2 ^ 15) (r : Regs) :
    StackHolds (r.pairAt .ds :: r.pairAt .ix :: r.pairAt .hl :: r.pairAt .ab :: ws) (u.pushPairs r) :=
  have hlen1 := Nat.lt_of_succ_lt hlen
  have hlen2 := Nat.lt_of_succ_lt hlen1
  (((h.push16 (Nat.lt_of_succ_lt hlen2) _).push16 hlen2 _).push16 hlen1 _).push16 hlen _

end

/-- Pushes store to the bytes of `State.pushArea` only. -/
theorem Pushed.memoryKept {n : Nat} {s u : State} (h : Pushed n s u) : MemoryKept (s.pushArea n) s u :=
  fun _ ha => h.stores.read_other ha

/-- `t` differs from `s` in SP and memory only. -/
def StackOnly (s t : State) : Prop := t = { s with spHi := t.spHi, mem := t.mem }

section
variable {s u : State} (h : StackOnly s u)
include h

theorem StackOnly.push16 (v : Word) : StackOnly s (u.push16 v) := by
  have hpush : u.push16 v = { u with spHi := (u.push16 v).spHi, mem := (u.push16 v).mem } := rfl
  unfold StackOnly at h ⊢
  generalize u.push16 v = t at hpush ⊢
  rw [hpush, h]

theorem StackOnly.pushPairs (r : Regs) : StackOnly s (u.pushPairs r) :=
  (((h.push16 _).push16 _).push16 _).push16 _

end

/-! ## PUSH and PUSH KF (R260, R261) -/

/-- What `FlagAIs` says depends on the registers that an auto-index can step, so not on SP. -/
theorem FlagAIs.congr_src {t u u' : State} {w : Nat} {src : Option Mem} {before : Bool} {own : Option Bool}
    (hr : ∀ p, u.reg16 (indexReg p) = u'.reg16 (indexReg p)) (hp : u.params = u'.params)
    (h : FlagAIs t w src none u before own) : FlagAIs t w src none u' before own := by
  have hseg : segmentFlag src w u.reg16 = segmentFlag src w u'.reg16 := by
    rcases src with _ | m | ⟨seg, p, dir⟩
    · rfl
    · rfl
    · cases seg <;> simp [segmentFlag, hr]
  unfold FlagAIs at h ⊢
  rwa [hseg, hp] at h

/-- PUSH of an even source ends with the source on top of the stack and its pointer stepped. -/
theorem push_ends (src : Src16) (s : State) (h : EvenMem s src.memory) :
    ∃ t, exec (.push src) s = .next t ∧ DataOnly s t ∧ RegsAre t 2 src.memory none (s.setSp (s.sp - 2)) ∧
      MemoryKept (s.pushBytes 1) s t ∧ (MemoryCanonical s → t.top16 = s.readSrc16 src) ∧
      FlagsBesidesA t false s.f ∧ FlagAIs t 2 src.memory none s s.f.a none := by
  have hexec : exec (.push src) s = .next ((s.push16 (s.readSrc16 src)).autoIndex .star 2
      (src.memory.bind memAuto) ((none : Option Mem).bind memAuto)) := by
    rw [exec_push, execPush, whenAligned_src16Ea h, src16Auto_eq]
    rfl
  generalize s.readSrc16 src = v at hexec ⊢
  have hmem := (s.push16 v).autoIndex_rm_mem .star 2 src.memory none
  have hregs : (s.push16 v).reg16 = (s.setSp (s.sp - 2)).reg16 := funext fun r => State.reg16_congr rfl rfl r
  have hdata : DataOnly s (s.push16 v) := rfl
  refine ⟨_, hexec, hdata.trans (State.autoIndex_dataOnly ..), (State.autoIndex_regsAre ..).congr hregs rfl,
    fun a ha => ?_, fun hc => ?_, State.autoIndex_besidesA .., ?_⟩
  · exact (congrArg (·.read a.toNat) hmem).trans (s.readByte_push16_other v ha)
  · exact (State.top16_congr (congrArg (· ++ 0#1) (State.autoIndex_spHi ..)) hmem).trans (s.push16_top16 hc v)
  · exact FlagAIs.congr_src (u := s.push16 v) (fun p => by cases p <;> rfl) rfl
      (State.autoIndex_star_a (s.push16 v) 2 src.memory none)

/-- PUSH KF ends with F at the new SP and K above it. -/
theorem pushKF_ends (s : State) :
    ∃ t, exec .pushKF s = .next t ∧ t = { s with spHi := t.spHi, mem := t.mem } ∧ t.sp = s.sp - 2 ∧
      MemoryKept (s.pushBytes 1) s t ∧
      (MemoryCanonical s → t.readByte (0#8 ++ t.sp) = s.f.toByte ∧ t.readByte (0#8 ++ (t.sp + 1)) = s.k) := by
  refine ⟨_, exec_pushKF s, rfl, s.push16_sp _, fun _ ha => s.readByte_push16_other _ ha, fun hc => ?_⟩
  rw [← State.loByte_top16, ← State.hiByte_top16, s.push16_top16 hc]
  exact ⟨loByte_pair _ _, hiByte_pair _ _⟩

/-! ## POP and POP F (R264, R265) -/

/-- POP into an even destination ends with the top word in it, SP two higher and the destination's pointer stepped. -/
theorem pop_ends (dst : Loc16) (s : State) (h : EvenMem s dst.memory) :
    ∃ t, exec (.pop dst) s = .next t ∧ DataOnly s t ∧
      RegsAre t 2 none dst.memory ((s.setSp (s.sp + 2)).withReg16 dst s.top16) ∧ Stored16 s t dst.memory s.top16 ∧
      FlagsBesidesA t false s.f ∧
      FlagAIs t 2 none dst.memory ((s.setSp (s.sp + 2)).withReg16 dst s.top16) s.f.a none := by
  have hexec : exec (.pop dst) s = .next ((s.writeLoc16 dst s.top16 s.popped).autoIndex .star 2
      ((none : Option Mem).bind memAuto) (dst.memory.bind memAuto)) := by
    rw [exec_pop, execPop, whenAligned_loc16Ea h, loc16Auto_eq]
    rfl
  have hregs : (s.writeLoc16 dst s.top16 s.popped).reg16 = (s.popped.withReg16 dst s.top16).reg16 := by
    cases dst with
    | reg r => rfl
    | mem m => exact funext fun r => State.reg16_congr rfl rfl r
  have hf : (s.writeLoc16 dst s.top16 s.popped).f = s.f := by simp
  refine ⟨_, hexec, ?_, ?_, ?_, hf ▸ State.autoIndex_besidesA .., ?_⟩
  · apply dataOnly_of <;> simp
  · exact (State.autoIndex_regsAre ..).congr hregs (by simp [State.popped])
  · exact s.writeLoc16_stored dst s.top16 s.popped_mem (by simp)
  · exact hf ▸ (State.autoIndex_star_a _ 2 none dst.memory).congr (congrFun hregs) (by simp)

/-- POP F takes F from the byte at SP. -/
theorem popF_ends (s : State) :
    ∃ t, exec .popF s = .next t ∧ t = { s with spHi := t.spHi, f := t.f } ∧ t.sp = s.sp + 2 ∧
      t.f.toByte = s.readByte (0#8 ++ s.sp) :=
  ⟨_, exec_popF s, rfl, s.popped_sp, (Flags.toByte_ofByte _).trans s.loByte_top16⟩

/-- Settles O43: instruction by instruction, `State.push16` and `State.popped` with the auto-index of the operand. -/
theorem pushPop : Obligations.PushPop := ⟨⟨push_ends, pushKF_ends⟩, pop_ends, popF_ends⟩

/-! ## What a group of pops loads (R266, R267) -/

/-- `u` is `s` after `n` pops, as far as SP and memory go (R85). -/
structure Popped (n : Nat) (s u : State) : Prop where
  sp : u.sp = s.sp + BitVec.ofNat 16 (2 * n)
  mem : u.mem = s.mem

theorem Popped.zero (s : State) : Popped 0 s s := ⟨by simp, rfl⟩

section
variable {n : Nat} {s u : State} (h : Popped n s u)
include h

theorem Popped.stackWord (k : Nat) : u.stackWord k = s.stackWord (n + k) := by
  have hsp : u.sp + BitVec.ofNat 16 (2 * k) = s.sp + BitVec.ofNat 16 (2 * (n + k)) := by
    rw [h.sp, BitVec.add_assoc, ← BitVec.ofNat_add, Nat.mul_add]
  rw [State.stackWord, hsp, State.read16_congr h.mem, State.stackWord]

theorem Popped.top16 : u.top16 = s.stackWord n := (State.stackWord_zero u).symm.trans (h.stackWord 0)

theorem Popped.popped : Popped (n + 1) s u.popped :=
  ⟨by rw [State.popped_sp, h.sp, BitVec.add_assoc, Nat.mul_add, BitVec.ofNat_add]; rfl, h.mem⟩

theorem Popped.popPair {r : Reg16} (hr : r ≠ .sp) : Popped (n + 1) s (u.popPair r) :=
  ⟨(State.setReg16_keeps_sp _ _ hr).trans h.popped.sp, (State.popPair_mem ..).trans h.mem⟩

theorem Popped.popPairs : Popped (n + 4) s u.popPairs :=
  (((h.popPair (by decide)).popPair (by decide)).popPair (by decide)).popPair (by decide)

theorem Popped.popShadowPairs : Popped (n + 4) s u.popShadowPairs := ⟨h.popPairs.sp, h.popPairs.mem⟩

end

/-- A register set from its four pairs and C. -/
def Regs.ofPairs (ds ix hl ab : Word) (c : Byte) : Regs where
  a := hiByte ab
  b := loByte ab
  h := hiByte hl
  l := loByte hl
  i := hiByte ix
  x := loByte ix
  d := hiByte ds
  s := loByte ds
  c := c

/-- A register set is made of its own pairs and its C. -/
theorem Regs.ofPairs_pairAt (r : Regs) :
    Regs.ofPairs (r.pairAt .ds) (r.pairAt .ix) (r.pairAt .hl) (r.pairAt .ab) r.c = r := by
  simp [Regs.ofPairs, Regs.pairAt]

/-- Four pops load the pairs from the four words on top, and leave C. -/
theorem State.popPairs_eq (s : State) :
    s.popPairs = { s with
      spHi := s.popPairs.spHi
      regs := .ofPairs (s.stackWord 0) (s.stackWord 1) (s.stackWord 2) (s.stackWord 3) s.regs.c } := by
  have h1 : Popped 1 s (s.popPair .ds) := (Popped.zero s).popPair (by decide)
  have h2 : Popped 2 s ((s.popPair .ds).popPair .ix) := h1.popPair (by decide)
  have h3 : Popped 3 s (((s.popPair .ds).popPair .ix).popPair .hl) := h2.popPair (by decide)
  rw [← (Popped.zero s).top16, ← h1.top16, ← h2.top16, ← h3.top16]
  rfl

/-- POP GPR loads the register set from the five words on top. -/
theorem popGpr_ends (s : State) :
    ∃ t, exec .popGpr s = .next t ∧ t.sp = s.sp + 10 ∧
      t = { s with
        spHi := t.spHi
        regs := .ofPairs (s.stackWord 0) (s.stackWord 1) (s.stackWord 2) (s.stackWord 3)
          (loByte (s.stackWord 4)) } := by
  have hp : Popped 4 s s.popPairs := (Popped.zero s).popPairs
  have heq := s.popPairs_eq
  refine ⟨_, exec_popGpr s, hp.popped.sp, ?_⟩
  generalize s.popPairs = p at hp heq ⊢
  have hlast : p.popped.setC (loByte p.top16) = { p with
      spHi := (p.popped.setC (loByte p.top16)).spHi
      regs := { p.regs with c := loByte p.top16 } } := rfl
  rw [hp.top16] at hlast ⊢
  generalize p.popped.setC _ = t at hlast ⊢
  rw [hlast, heq]
  rfl

/-- The four pops into the shadow set load its pairs, and leave C'. -/
theorem State.popShadowPairs_eq (s : State) :
    s.popShadowPairs = { s with
      spHi := s.popPairs.spHi
      shadow := .ofPairs (s.stackWord 0) (s.stackWord 1) (s.stackWord 2) (s.stackWord 3) s.shadow.c } := by
  have heq := s.popPairs_eq
  rw [State.popShadowPairs]
  generalize s.popPairs = p at heq ⊢
  rw [heq]
  rfl

/-- Eight pops load the pairs of the main set and then those of the shadow set. -/
theorem State.popPairs_popShadowPairs_eq (s : State) :
    ∃ hi, s.popPairs.popShadowPairs = { s with
      spHi := hi
      regs := .ofPairs (s.stackWord 0) (s.stackWord 1) (s.stackWord 2) (s.stackWord 3) s.regs.c
      shadow := .ofPairs (s.stackWord 4) (s.stackWord 5) (s.stackWord 6) (s.stackWord 7) s.shadow.c } := by
  have hmain : Popped 4 s s.popPairs := (Popped.zero s).popPairs
  have heq := s.popPairs_eq
  generalize s.popPairs = p at hmain heq
  refine ⟨p.popPairs.spHi, ?_⟩
  rw [p.popShadowPairs_eq, hmain.stackWord, hmain.stackWord, hmain.stackWord, hmain.stackWord]
  generalize p.popPairs.spHi = hi
  rw [heq]

/-- The last two pops of POP ALL: C' and C, then F' and F (R267). -/
def State.popSpecial (s : State) : State :=
  let u := { s.popped with
    shadow := { s.shadow with c := hiByte s.top16 }
    regs := { s.regs with c := loByte s.top16 } }
  { u.popped with
    fShadow := ShadowFlags.ofByte (hiByte u.top16)
    f := Flags.ofByte (loByte u.top16) }

theorem execPopAll_eq_popSpecial (s : State) : execPopAll s = .next s.popPairs.popShadowPairs.popSpecial := by
  rw [execPopAll, State.popSpecial]

theorem Popped.popSpecial {n : Nat} {s u : State} (h : Popped n s u) : Popped (n + 2) s u.popSpecial :=
  ⟨h.popped.popped.sp, h.mem⟩

theorem State.popSpecial_eq (s : State) :
    s.popSpecial = { s with
      spHi := s.popSpecial.spHi
      regs := { s.regs with c := loByte (s.stackWord 0) }
      shadow := { s.shadow with c := hiByte (s.stackWord 0) }
      fShadow := .ofByte (hiByte (s.stackWord 1))
      f := .ofByte (loByte (s.stackWord 1)) } := by
  rw [← (Popped.zero s).top16, ← (Popped.zero s).popped.top16]
  rfl

/-- POP ALL loads the main set from the four words on top and the low byte of word 8, the shadow set from the next four
and the high byte of word 8, and F and F' from word 9. -/
theorem popAll_ends (s : State) :
    ∃ t, exec .popAll s = .next t ∧ t.sp = s.sp + 20 ∧
      t = { s with
        spHi := t.spHi
        regs := .ofPairs (s.stackWord 0) (s.stackWord 1) (s.stackWord 2) (s.stackWord 3) (loByte (s.stackWord 8))
        shadow := .ofPairs (s.stackWord 4) (s.stackWord 5) (s.stackWord 6) (s.stackWord 7) (hiByte (s.stackWord 8))
        fShadow := .ofByte (hiByte (s.stackWord 9))
        f := .ofByte (loByte (s.stackWord 9)) } := by
  have hpairs : Popped 8 s s.popPairs.popShadowPairs := (Popped.zero s).popPairs.popShadowPairs
  obtain ⟨hi, heq⟩ := s.popPairs_popShadowPairs_eq
  have hexec := (exec_popAll s).trans (execPopAll_eq_popSpecial s)
  generalize s.popPairs.popShadowPairs = q at hpairs heq hexec
  refine ⟨_, hexec, hpairs.popSpecial.sp, ?_⟩
  have hspecial := q.popSpecial_eq
  rw [hpairs.stackWord 0, hpairs.stackWord 1] at hspecial
  generalize q.popSpecial = t at hspecial ⊢
  rw [hspecial, heq]
  rfl

/-! ## The groups -/

/-- PUSH GPR leaves the five words of the main set on top (R262). -/
theorem pushGpr_ends (s : State) :
    ∃ t, exec .pushGpr s = .next t ∧ StackOnly s t ∧ t.sp = s.sp - 10 ∧ MemoryKept (s.pushArea 5) s t ∧
      (MemoryCanonical s → StackHolds [s.regs.pairAt .ds, s.regs.pairAt .ix, s.regs.pairAt .hl, s.regs.pairAt .ab,
        pair 0 s.regs.c] t) := by
  have honly : StackOnly s s := rfl
  have hpushed := (s.pushed_push16 (pair 0 s.regs.c)).pushPairs s.regs
  exact ⟨_, exec_pushGpr s, (honly.push16 _).pushPairs _, hpushed.sp, hpushed.memoryKept,
    fun hc => ((StackHolds.nil hc).push16 (by decide) _).pushPairs (by simp) s.regs⟩

/-- PUSH ALL leaves the pairs of both sets, C':C and F':F on top, with a free bit 5 in F' (R263). -/
theorem pushAll_ends (s : State) :
    ∃ t, exec .pushAll s = .next t ∧ StackOnly s.drawn t ∧ t.sp = s.sp - 20 ∧ MemoryKept (s.pushArea 10) s t ∧
      (MemoryCanonical s → StackHolds [s.regs.pairAt .ds, s.regs.pairAt .ix, s.regs.pairAt .hl, s.regs.pairAt .ab,
        s.shadow.pairAt .ds, s.shadow.pairAt .ix, s.shadow.pairAt .hl, s.shadow.pairAt .ab,
        pair s.shadow.c s.regs.c, pair (s.fShadow.toByte s.freeBit) s.f.toByte] t) := by
  have honly : StackOnly s.drawn s.drawn := rfl
  have hdrawn : Pushed 0 s s.drawn := .zero rfl rfl
  have hpushed := (((hdrawn.push16 (pair (s.fShadow.toByte s.freeBit) s.f.toByte)).push16
    (pair s.shadow.c s.regs.c)).pushPairs s.shadow).pushPairs s.regs
  refine ⟨_, exec_pushAll s, (((honly.push16 _).push16 _).pushPairs _).pushPairs _, hpushed.sp, hpushed.memoryKept,
    fun hc => ?_⟩
  have hnil : StackHolds [] s.drawn := .nil hc
  exact (((hnil.push16 (by decide) _).push16 (by simp) _).pushPairs (by simp) s.shadow).pushPairs (by simp) s.regs

/-- A byte comes back from F' with its own bit 5. -/
theorem ShadowFlags.toByte_ofByte (b : Byte) : (ShadowFlags.ofByte b).toByte (b.getLsbD 5) = b :=
  Flags.toByte_ofByte b

/-- Settles O44: the words that the pushes leave and the pops load are `State.stackWord`, two bytes apart. -/
theorem pushPopGroups : Obligations.PushPopGroups := by
  refine ⟨?_, ?_⟩
  · intro s at_
    obtain ⟨t, he, heq, hsp, hkept, hholds⟩ := pushGpr_ends s
    obtain ⟨t', he', heq', hsp', hkept', hholds'⟩ := pushAll_ends s
    refine ⟨⟨t, he, heq, hsp, hkept, fun hc => ?_⟩, ⟨t', he', ?_, hsp', hkept', fun hc => ?_⟩⟩
    · have hword := (hholds hc).word
      exact ⟨hword 0 _ rfl, hword 1 _ rfl, hword 2 _ rfl, hword 3 _ rfl, hword 4 _ rfl⟩
    · unfold StackOnly at heq'
      rw [heq']
      rfl
    · have hword := (hholds' hc).word
      exact ⟨hword 0 _ rfl, hword 1 _ rfl, hword 2 _ rfl, hword 3 _ rfl, hword 4 _ rfl, hword 5 _ rfl, hword 6 _ rfl,
        hword 7 _ rfl, hword 8 _ rfl, s.freeBit, hword 9 _ rfl⟩
  · intro s w hi lo
    obtain ⟨t, he, hsp, heq⟩ := popGpr_ends s
    obtain ⟨t', he', hsp', heq'⟩ := popAll_ends s
    refine ⟨⟨t, he, ?_, hsp, ?_⟩, ⟨t', he', ?_, hsp', ?_⟩⟩
    · rw [heq]
    · rw [heq]
      exact ⟨pair_hiByte_loByte _, pair_hiByte_loByte _, pair_hiByte_loByte _, pair_hiByte_loByte _, rfl⟩
    · rw [heq']
    · rw [heq']
      exact ⟨pair_hiByte_loByte _, pair_hiByte_loByte _, pair_hiByte_loByte _, pair_hiByte_loByte _,
        pair_hiByte_loByte _, pair_hiByte_loByte _, pair_hiByte_loByte _, pair_hiByte_loByte _, rfl, rfl,
        ShadowFlags.toByte_ofByte _, Flags.toByte_ofByte _⟩

/-! ## Popping what was pushed -/

/-- POP GPR undoes PUSH GPR, but for the stack bytes in memory. -/
theorem popGpr_undoes_pushGpr (s : State) (hc : MemoryCanonical s) :
    ∃ t, exec .pushGpr s = .next t ∧ exec .popGpr t = .next { s with mem := t.mem } ∧
      MemoryKept (s.pushArea 5) s t := by
  obtain ⟨t, hpush, ht, htsp, hkept, hholds⟩ := pushGpr_ends s
  obtain ⟨u, hpop, husp, hu⟩ := popGpr_ends t
  have hword := (hholds hc).word
  have hsp : u.spHi = s.spHi := State.spHi_of_sp (by rw [husp, htsp, BitVec.sub_add_cancel])
  rw [hsp, hword 0 _ rfl, hword 1 _ rfl, hword 2 _ rfl, hword 3 _ rfl, hword 4 _ rfl, loByte_pair,
    Regs.ofPairs_pairAt] at hu
  refine ⟨t, hpush, hpop.trans (congrArg _ ?_), hkept⟩
  unfold StackOnly at ht
  rw [hu, ht]

/-- POP ALL undoes PUSH ALL, but for the stack bytes in memory and the free bit drawn. -/
theorem popAll_undoes_pushAll (s : State) (hc : MemoryCanonical s) :
    ∃ t, exec .pushAll s = .next t ∧ exec .popAll t = .next { s with mem := t.mem, fresh := t.fresh } ∧
      MemoryKept (s.pushArea 10) s t := by
  obtain ⟨t, hpush, ht, htsp, hkept, hholds⟩ := pushAll_ends s
  obtain ⟨u, hpop, husp, hu⟩ := popAll_ends t
  have hword := (hholds hc).word
  have hsp : u.spHi = s.spHi := State.spHi_of_sp (by rw [husp, htsp, BitVec.sub_add_cancel])
  rw [hsp, hword 0 _ rfl, hword 1 _ rfl, hword 2 _ rfl, hword 3 _ rfl, hword 4 _ rfl, hword 5 _ rfl, hword 6 _ rfl,
    hword 7 _ rfl, hword 8 _ rfl, hword 9 _ rfl, loByte_pair, hiByte_pair, loByte_pair, hiByte_pair,
    Regs.ofPairs_pairAt, Regs.ofPairs_pairAt, ShadowFlags.ofByte_toByte, Flags.ofByte_toByte] at hu
  refine ⟨t, hpush, hpop.trans (congrArg _ ?_), hkept⟩
  unfold StackOnly at ht
  rw [hu, ht]
  rfl

/-- Settles O45: the pops load the words that the pushes left, and SP comes back. -/
theorem popUndoesPush : Obligations.PopUndoesPush :=
  fun s hc => ⟨popGpr_undoes_pushGpr s hc, popAll_undoes_pushAll s hc⟩

end Sys2Proof.Machine

/-! PROOF. The two-operand arithmetic and logic of spec/47_alu.md (R280 to R289): what each of the eight operations gives
at any width, how an instruction of each form ends with it, and `Obligations.AluByteAccumulator`,
`Obligations.AluByteDestination`, `Obligations.AluWordAccumulator` and `Obligations.AluWordDestination`. -/

namespace Sys2Proof.Machine

/-! ## What the eight operations give (R281 to R289) -/

section
variable {w : Nat} (p : Params) (f : Flags) (x y : BitVec w) (c : Bool)

/-- The arithmetic flag column of a sum: the flags in integers, and A as C (R289). -/
theorem putArith_addFlags (hw : 0 < w) : f.putArith (addFlags p x y c) =
    let g := sumFlags (p.halfMod w) f x y c.toNat
    { g with a := g.c } := by
  obtain ⟨hres, hs, hz, hc, hv, hh⟩ := addFlags_fields p x y c hw
  simp only [Flags.putArith, sumFlags, hs, hz, hc, hv, hh, hres]

/-- The arithmetic flag column of a difference (R289). -/
theorem putArith_subFlags (hw : 0 < w) : f.putArith (subFlags p x y c) =
    let g := differenceFlags (p.halfMod w) f x y c.toNat
    { g with a := g.c } := by
  obtain ⟨hres, hs, hz, hc, hv, hh⟩ := subFlags_fields p x y c hw
  simp only [Flags.putArith, differenceFlags, hs, hz, hc, hv, hh, hres]

/-- The logic flag column (R289). -/
theorem putLogic_logicFlags : f.putLogic (logicFlags p x) = bitwiseFlags (p.parityBits w) f x := by
  obtain ⟨-, hs, hz, hv⟩ := logicFlags_fields p x
  simp only [Flags.putLogic, bitwiseFlags, hs, hz, hv]

/-- On `x` and `y` with the flags `f`, the operation gives the result `v` and the flags `g`, A by `own`. -/
structure AluOp.Gives (op : AluOp) (v : BitVec w) (own : Option Bool) (g : Flags) : Prop where
  res : (op.eval p x y f.c).res = v
  column : ColumnSays op.column own f.a (op.putFlags f (op.eval p x y f.c))
  flags : SameBesidesA false g (op.putFlags f (op.eval p x y f.c))

variable {p f x y}

/-- An operation of the arithmetic group, or CP, gives the flags whose column is `Flags.putArith` (R289). -/
theorem AluOp.Gives.of_arith {op : AluOp} {v : BitVec w} {g : Flags} (hop : op.isLogic = false)
    (hres : (op.eval p x y f.c).res = v) (hg : f.putArith (op.eval p x y f.c) = { g with a := g.c }) :
    op.Gives p f x y v (some g.c) g := by
  have hput : op.putFlags f (op.eval p x y f.c) = { g with a := g.c } := by simp [AluOp.putFlags, hop, hg]
  exact ⟨hres, .inr ⟨by simp [AluOp.column, hop], by rw [hput]⟩, by rw [hput]; rfl⟩

/-- An operation of the logic group gives the flags of its result, A left to the auto-index (R289). -/
theorem AluOp.Gives.of_logic {op : AluOp} {v : BitVec w} (hop : op.isLogic = true)
    (he : op.eval p x y f.c = logicFlags p v) : op.Gives p f x y v none (bitwiseFlags (p.parityBits w) f v) := by
  have hput : op.putFlags f (op.eval p x y f.c) = bitwiseFlags (p.parityBits w) f v := by
    simp [AluOp.putFlags, hop, he, putLogic_logicFlags]
  exact ⟨by rw [he]; rfl, .inl ⟨by simp [AluOp.column, hop], rfl, by rw [hput]; rfl⟩, by rw [hput]; rfl⟩

variable (hw : 0 < w)
include hw

theorem gives_add : let g := sumFlags (p.halfMod w) f x y 0
    AluOp.add.Gives p f x y (x + y) (some g.c) g :=
  .of_arith rfl ((addFlags_res p x y false).trans (BitVec.add_zero _)) (putArith_addFlags p f x y false hw)

theorem gives_adc : let g := sumFlags (p.halfMod w) f x y f.c.toNat
    AluOp.adc.Gives p f x y (x + y + BitVec.ofNat w f.c.toNat) (some g.c) g :=
  .of_arith rfl (addFlags_res p x y f.c) (putArith_addFlags p f x y f.c hw)

theorem gives_sub : let g := differenceFlags (p.halfMod w) f x y 0
    AluOp.sub.Gives p f x y (x - y) (some g.c) g :=
  .of_arith rfl ((subFlags_res p x y false).trans (BitVec.sub_zero _)) (putArith_subFlags p f x y false hw)

theorem gives_sbc : let g := differenceFlags (p.halfMod w) f x y f.c.toNat
    AluOp.sbc.Gives p f x y (x - y - BitVec.ofNat w f.c.toNat) (some g.c) g :=
  .of_arith rfl (subFlags_res p x y f.c) (putArith_subFlags p f x y f.c hw)

/-- CP computes as SUB does (R288). -/
theorem gives_cp : let g := differenceFlags (p.halfMod w) f x y 0
    AluOp.cp.Gives p f x y (x - y) (some g.c) g :=
  .of_arith rfl (cp_res p f x y) (putArith_subFlags p f x y false hw)

omit hw

theorem gives_and : AluOp.and.Gives p f x y (x &&& y) none (bitwiseFlags (p.parityBits w) f (x &&& y)) :=
  .of_logic rfl rfl

theorem gives_xor : AluOp.xor.Gives p f x y (x ^^^ y) none (bitwiseFlags (p.parityBits w) f (x ^^^ y)) :=
  .of_logic rfl rfl

theorem gives_or : AluOp.or.Gives p f x y (x ||| y) none (bitwiseFlags (p.parityBits w) f (x ||| y)) :=
  .of_logic rfl rfl

end

/-! ## How an instruction of each form ends (R280) -/

section
variable {i : Instr} {op : AluOp} {s : State} {own : Option Bool} {g : Flags}

/-- An instruction that writes registers (those of `u`), the flags of an operation, and then steps its pointers, ends as
`EndsReading` says. -/
theorem AluOp.Gives.endsReading {w n : Nat} {x y v : BitVec w} {src dst : Option Mem} {u : State}
    (h : op.Gives s.params s.f x y v own g) (hu : u = { s with regs := u.regs })
    (he : exec i s = .next ((u.setF (op.putFlags s.f (op.eval s.params x y s.f.c))).autoIndex op.column n
      (src.bind memAuto) (dst.bind memAuto))) :
    EndsReading i s n src dst u own g := by
  have hparams : u.params = s.params := by rw [hu]
  have hmem : u.mem = s.mem := by rw [hu]
  refine endsReading_of (u' := u) ?_ (fun _ => rfl) rfl hparams hmem he h.column h.flags
  rw [hu]
  rfl

section
variable {r : Acc8} {src : Src8} {v : Byte} (hi : exec i s = alu8 op r src s)
  (h : op.Gives s.params s.f (s.reg8 (accReg8 r)) (s.readSrc8 src) v own g)
include hi h

/-- F1 and F2, but for CP: the result goes to the accumulator. -/
theorem alu8_ends (hw : op.writes = true) : EndsReading i s 1 src.memory none (s.setReg8 (accReg8 r) v) own g := by
  refine h.endsReading (by cases r <;> rfl) ?_
  rw [hi, alu8, if_pos hw, h.res, src8Auto_eq]
  rfl

/-- F1 and F2 for CP: the accumulator is only read. -/
theorem alu8_endsReading (hw : op.writes = false) : EndsReading i s 1 src.memory none s own g := by
  refine h.endsReading rfl ?_
  rw [hi, alu8, hw, src8Auto_eq]
  rfl

end

section
variable {r : Acc16} {src : Src16} {v : Word} (hal : EvenMem s src.memory) (hi : exec i s = alu16 op r src s)
  (h : op.Gives s.params s.f (s.reg16 (accReg16 r)) (s.readSrc16 src) v own g)
include hal hi h

/-- F4 and F5, but for CP. -/
theorem alu16_ends (hw : op.writes = true) : EndsReading i s 2 src.memory none (s.setReg16 (accReg16 r) v) own g := by
  refine h.endsReading (by cases r <;> rfl) ?_
  rw [hi, alu16, whenAligned_src16Ea hal, if_pos hw, h.res, src16Auto_eq]
  rfl

/-- F4 and F5 for CP. -/
theorem alu16_endsReading (hw : op.writes = false) : EndsReading i s 2 src.memory none s own g := by
  refine h.endsReading rfl ?_
  rw [hi, alu16, whenAligned_src16Ea hal, hw, src16Auto_eq]
  rfl

end

section
variable {dst : Loc8} {r : Acc8} {v : Byte} (hi : exec i s = aluTo8 op dst r s)
  (h : op.Gives s.params s.f (s.readLoc8 dst) (s.reg8 (accReg8 r)) v own g)
include hi h

/-- F3, but for CP: the result goes to the destination. -/
theorem aluTo8_ends (hw : op.writes = true) : Ends8 i s none dst v false own g := by
  refine ends8_of (s' := s) rfl ?_ h.column h.flags
  rw [hi, aluTo8, if_pos hw, h.res, loc8Auto_eq]
  rfl

/-- F3 for CP: the destination is only read. -/
theorem aluTo8_endsReading (hw : op.writes = false) : EndsReading i s 1 none dst.memory s own g := by
  refine h.endsReading rfl ?_
  rw [hi, aluTo8, hw, loc8Auto_eq]
  rfl

end

section
variable {dst : Loc16} {r : Acc16} {v : Word} (hal : EvenMem s dst.memory) (hi : exec i s = aluTo16 op dst r s)
  (h : op.Gives s.params s.f (s.readLoc16 dst) (s.reg16 (accReg16 r)) v own g)
include hal hi h

/-- F6, but for CP. -/
theorem aluTo16_ends (hw : op.writes = true) : Ends16 i s none dst v false own g := by
  refine ends16_of (s' := s) rfl ?_ h.column h.flags
  rw [hi, aluTo16, whenAligned_loc16Ea hal, if_pos hw, h.res, loc16Auto_eq]
  rfl

/-- F6 for CP. -/
theorem aluTo16_endsReading (hw : op.writes = false) : EndsReading i s 2 none dst.memory s own g := by
  refine h.endsReading rfl ?_
  rw [hi, aluTo16, whenAligned_loc16Ea hal, hw, loc16Auto_eq]
  rfl

end

end

/-! ## The statements -/

/-- Settles O46: each operation by `alu8_ends`; an immediate is a source without a pointer. -/
theorem aluByteAccumulator : Obligations.AluByteAccumulator := by
  intro r src v s reg x y c arith logic compares
  have hw : 0 < 8 := by decide
  exact ⟨⟨alu8_ends (exec_addSrc8 r src s) (gives_add hw) rfl,
      alu8_ends (exec_adcSrc8 r src s) (gives_adc hw) rfl,
      alu8_ends (exec_subSrc8 r src s) (gives_sub hw) rfl,
      alu8_ends (exec_sbcSrc8 r src s) (gives_sbc hw) rfl,
      alu8_ends (exec_andSrc8 r src s) gives_and rfl,
      alu8_ends (exec_xorSrc8 r src s) gives_xor rfl,
      alu8_ends (exec_orSrc8 r src s) gives_or rfl,
      alu8_endsReading (exec_cpSrc8 r src s) (gives_cp hw) rfl⟩,
    alu8_ends (exec_addImm8 r v s) (gives_add hw) rfl,
    alu8_ends (exec_adcImm8 r v s) (gives_adc hw) rfl,
    alu8_ends (exec_subImm8 r v s) (gives_sub hw) rfl,
    alu8_ends (exec_sbcImm8 r v s) (gives_sbc hw) rfl,
    alu8_ends (exec_andImm8 r v s) gives_and rfl,
    alu8_ends (exec_xorImm8 r v s) gives_xor rfl,
    alu8_ends (exec_orImm8 r v s) gives_or rfl,
    alu8_endsReading (exec_cpImm8 r v s) (gives_cp hw) rfl⟩

/-- Settles O47: each operation by `aluTo8_ends`, CP by `aluTo8_endsReading`. -/
theorem aluByteDestination : Obligations.AluByteDestination := by
  intro dst r s x y c arith logic compares
  have hw : 0 < 8 := by decide
  exact ⟨aluTo8_ends (exec_addDst8 dst r s) (gives_add hw) rfl,
    aluTo8_ends (exec_adcDst8 dst r s) (gives_adc hw) rfl,
    aluTo8_ends (exec_subDst8 dst r s) (gives_sub hw) rfl,
    aluTo8_ends (exec_sbcDst8 dst r s) (gives_sbc hw) rfl,
    aluTo8_ends (exec_andDst8 dst r s) gives_and rfl,
    aluTo8_ends (exec_xorDst8 dst r s) gives_xor rfl,
    aluTo8_ends (exec_orDst8 dst r s) gives_or rfl,
    aluTo8_endsReading (exec_cpDst8 dst r s) (gives_cp hw) rfl⟩

/-- Settles O48: each operation by `alu16_ends`; the immediate is extended as `uimm8` and `simm8` say. -/
theorem aluWordAccumulator : Obligations.AluWordAccumulator := by
  intro r v s reg x c hm arith logic compares
  have hw : 0 < 16 := by decide
  refine ⟨?_, ?_⟩
  · intro src h y
    exact ⟨alu16_ends h (exec_addSrc16 r src s) (gives_add hw) rfl,
      alu16_ends h (exec_adcSrc16 r src s) (gives_adc hw) rfl,
      alu16_ends h (exec_subSrc16 r src s) (gives_sub hw) rfl,
      alu16_ends h (exec_sbcSrc16 r src s) (gives_sbc hw) rfl,
      alu16_ends h (exec_andSrc16 r src s) gives_and rfl,
      alu16_ends h (exec_xorSrc16 r src s) gives_xor rfl,
      alu16_ends h (exec_orSrc16 r src s) gives_or rfl,
      alu16_endsReading h (exec_cpSrc16 r src s) (gives_cp hw) rfl⟩
  · intro u i
    have h : EvenMem s none := fun _ hx => nomatch hx
    exact ⟨alu16_ends h (exec_addImm16 r v s) (gives_add hw) rfl,
      alu16_ends h (exec_adcImm16 r v s) (gives_adc hw) rfl,
      alu16_ends h (exec_subImm16 r v s) (gives_sub hw) rfl,
      alu16_ends h (exec_sbcImm16 r v s) (gives_sbc hw) rfl,
      alu16_ends h (exec_andImm16 r v s) gives_and rfl,
      alu16_ends h (exec_xorImm16 r v s) gives_xor rfl,
      alu16_ends h (exec_orImm16 r v s) gives_or rfl,
      alu16_endsReading h (exec_cpImm16 r v s) (gives_cp hw) rfl⟩

/-- Settles O49: each operation by `aluTo16_ends`, CP by `aluTo16_endsReading`. -/
theorem aluWordDestination : Obligations.AluWordDestination := by
  intro dst r s h x y c hm arith logic compares
  have hw : 0 < 16 := by decide
  exact ⟨aluTo16_ends h (exec_addDst16 dst r s) (gives_add hw) rfl,
    aluTo16_ends h (exec_adcDst16 dst r s) (gives_adc hw) rfl,
    aluTo16_ends h (exec_subDst16 dst r s) (gives_sub hw) rfl,
    aluTo16_ends h (exec_sbcDst16 dst r s) (gives_sbc hw) rfl,
    aluTo16_ends h (exec_andDst16 dst r s) gives_and rfl,
    aluTo16_ends h (exec_xorDst16 dst r s) gives_xor rfl,
    aluTo16_ends h (exec_orDst16 dst r s) gives_or rfl,
    aluTo16_endsReading h (exec_cpDst16 dst r s) (gives_cp hw) rfl⟩

end Sys2Proof.Machine

/-! PROOF. The control transfers of spec/48_control.md (R300 to R318): what a jump, a call and a return do, and
`Obligations.LoopsAndRelativeJumps`, `Obligations.NearCalls`, `Obligations.Jumps`, `Obligations.FarCalls` and
`Obligations.Returns`. -/

namespace Sys2Proof.Machine

/-! ## Even displacements (30_encoding.md R106, R108) -/

/-- The sum of even words is even. -/
theorem add_bit0 {v d : Word} (hv : v.getLsbD 0 = false) (hd : d.getLsbD 0 = false) : (v + d).getLsbD 0 = false := by
  rw [BitVec.getLsbD_add (by decide), hv, hd, BitVec.carry_zero]
  rfl

/-- A displacement counted in words is even. -/
theorem wordsAway_bit0 (n : Int) : (wordsAway n).getLsbD 0 = false := by
  rw [wordsAway, Int.two_mul, BitVec.ofInt_add, BitVec.getLsbD_add (by decide), BitVec.carry_zero, Bool.xor_false,
    Bool.xor_self]

/-- An offset above a zero bit is even. -/
theorem append_zero_bit0 (q : BitVec 15) : (q ++ 0#1 : Word).getLsbD 0 = false := by
  rw [BitVec.getLsbD_append]
  rfl

/-- PC after a jump by an even displacement (R300). -/
theorem State.jumpBy_pc (s : State) {d : Word} (hd : d.getLsbD 0 = false) : (s.jumpBy d).pc = s.pc + d :=
  s.setPc_pc_even (add_bit0 s.pc_bit0 hd)

/-! ## DJNZ, JR and JRL (R301 to R303, R311) -/

section
variable {s u : State} {z : Prop} [Decidable z] {d : Word}

/-- Where DJNZ ends, with `u` the state after its counter is written: PC moves unless `z` (R301, R302). -/
theorem loopEnd_eq (hu : u = { s with regs := u.regs }) (hd : d.getLsbD 0 = false) :
    let t := if z then u else u.jumpBy d
    t = { s with regs := t.regs, pcHi := t.pcHi } ∧ t.regs = u.regs ∧ t.spHi = u.spHi ∧
      t.pc = if z then s.pc else s.pc + d := by
  have hpc : u.pc = s.pc := by rw [hu]; rfl
  intro t
  by_cases h : z
  · rw [show t = u from if_pos h, if_pos h]
    exact ⟨by rw [hu], rfl, rfl, hpc⟩
  · rw [show t = u.jumpBy d from if_neg h, if_neg h, ← hpc]
    exact ⟨by rw [State.jumpBy, State.setPc, hu], rfl, rfl, u.jumpBy_pc hd⟩

end

section
variable (p : Byte) (s : State)

/-- DJNZ of a byte counter (R301). -/
theorem djnz8_ends (r : Acc8) :
    ∃ t, exec (.djnz8 r p) s = .next t ∧ t = { s with regs := t.regs, pcHi := t.pcHi } ∧
      t.reg8 (accReg8 r) = s.reg8 (accReg8 r) - 1 ∧ (∀ q, q ≠ accReg8 r → t.reg8 q = s.reg8 q) ∧
      t.regs.c = s.regs.c ∧ t.pc = if s.reg8 (accReg8 r) = 1 then s.pc else s.pc + disp8 p := by
  have hset : ∀ v, s.setReg8 (accReg8 r) v = { s with regs := (s.setReg8 (accReg8 r) v).regs } := by
    cases r <;> exact fun _ => rfl
  obtain ⟨ht, hregs, -, hpc⟩ := loopEnd_eq (z := s.reg8 (accReg8 r) - 1 = 0) (hset _) (wordsAway_bit0 (p.toNat - 256))
  refine ⟨_, exec_djnz8 r p s, ht, ?_, fun q hq => ?_, ?_, ?_⟩
  · exact (State.reg8_congr hregs _).trans (s.setReg8_reg8_same _ _)
  · exact (State.reg8_congr hregs q).trans (s.setReg8_reg8_other _ hq)
  · exact (congrArg Regs.c hregs).trans (s.setReg8_c _ _)
  · exact hpc.trans (by simp only [sub_eq_zero]; rfl)

/-- DJNZ of a word counter (R302). -/
theorem djnz16_ends (r : Acc16) :
    ∃ t, exec (.djnz16 r p) s = .next t ∧ t = { s with regs := t.regs, pcHi := t.pcHi } ∧
      t.reg16 (accReg16 r) = s.reg16 (accReg16 r) - 1 ∧ (∀ q, q ≠ accReg16 r → t.reg16 q = s.reg16 q) ∧
      t.regs.c = s.regs.c ∧ t.pc = if s.reg16 (accReg16 r) = 1 then s.pc else s.pc + disp8 p := by
  have hset : ∀ v, s.setReg16 (accReg16 r) v = { s with regs := (s.setReg16 (accReg16 r) v).regs } := by
    cases r <;> exact fun _ => rfl
  have hne : accReg16 r ≠ .sp := by cases r <;> decide
  obtain ⟨ht, hregs, hsp, hpc⟩ :=
    loopEnd_eq (z := s.reg16 (accReg16 r) - 1 = 0) (hset _) (wordsAway_bit0 (p.toNat - 256))
  refine ⟨_, exec_djnz16 r p s, ht, ?_, fun q hq => ?_, ?_, ?_⟩
  · exact (State.reg16_congr hregs hsp _).trans (s.setReg16_reg16_pair _ hne)
  · exact (State.reg16_congr hregs hsp q).trans (s.setReg16_reg16_other _ hq)
  · exact (congrArg Regs.c hregs).trans (s.setReg16_c _ _)
  · exact hpc.trans (by simp only [sub_eq_zero]; rfl)

/-- A jump by an even displacement where the condition holds, and nothing where it does not (R303, R311). -/
theorem jumpIf_ends {i : Instr} {cond : Cond} {d : Word} (hd : d.getLsbD 0 = false)
    (hi : exec i s = .next (if s.f.cond cond then s.jumpBy d else s)) :
    ∃ t, exec i s = .next t ∧ t = { s with pcHi := t.pcHi } ∧ t.pc = if s.f.cond cond then s.pc + d else s.pc := by
  refine ⟨_, hi, ?_, ?_⟩
  · split <;> rfl
  · split
    · exact s.jumpBy_pc hd
    · rfl

end

/-- Settles O50: the counters by `djnz8_ends` and `djnz16_ends`, the relative jumps by `jumpIf_ends`. -/
theorem loopsAndRelativeJumps : Obligations.LoopsAndRelativeJumps :=
  ⟨fun p s => ⟨djnz8_ends p s, djnz16_ends p s⟩,
    fun cond p q s => ⟨jumpIf_ends s (wordsAway_bit0 p.toInt) (exec_jr cond p s),
      jumpIf_ends s (append_zero_bit0 q) (exec_jrl cond q s)⟩⟩

/-! ## Transfers through an operand (R305 to R310) -/

section
variable {i : Instr} {s u : State}

theorem StackOnly.refl (s : State) : StackOnly s s := rfl

/-- A transfer through an even operand, from the state `u` after the pushes, writes PC and K, and of the rest steps the
operand's pointer; no flag changes, A included (R305 to R308, 90_conflicts.md C5). -/
theorem goTo_ends {addr : Src16} {k : Byte} (h : EvenMem s addr.memory) (hu : StackOnly s u)
    (hi : exec i s = goTo addr k s u) :
    ∃ t, exec i s = .next t ∧ DataOnly { s with pcHi := t.pcHi, k := k } t ∧ RegsAre t 2 addr.memory none u ∧
      t.mem = u.mem ∧ t.spHi = u.spHi ∧ t.f = s.f ∧ t.pc = afterWrite s.params s.pc (s.readSrc16 addr) := by
  have hexec : exec i s = .next (((u.autoIndex .dash 2 (addr.memory.bind memAuto)
      ((none : Option Mem).bind memAuto)).setPc (s.readSrc16 addr)).setK k) := by
    rw [hi, goTo, whenAligned_src16Ea h, src16Auto_eq]
    rfl
  have hregs := u.autoIndex_regsAre .dash 2 addr.memory none
  have hdata := u.autoIndex_dataOnly .dash 2 (addr.memory.bind memAuto) ((none : Option Mem).bind memAuto)
  have hmem := u.autoIndex_rm_mem .dash 2 addr.memory none
  have hsp := u.autoIndex_spHi .dash 2 (addr.memory.bind memAuto) ((none : Option Mem).bind memAuto)
  have hf := u.autoIndex_dash_f 2 (addr.memory.bind memAuto) ((none : Option Mem).bind memAuto)
  generalize u.autoIndex .dash 2 (addr.memory.bind memAuto) ((none : Option Mem).bind memAuto) = v at *
  have hs : DataOnly s v := DataOnly.trans (by rw [hu]; rfl) hdata
  have huf : u.f = s.f := by rw [hu]
  refine ⟨_, hexec, ?_, ⟨fun r => ?_, hregs.2⟩, hmem, hsp, hf.trans huf, ?_⟩
  · unfold DataOnly at hs ⊢
    rw [hs]
    rfl
  · exact (State.reg16_congr rfl rfl r).trans (hregs.1 r)
  · refine (v.setPc_pc_afterWrite _).trans ?_
    rw [hs]
    rfl

/-- A transfer through an even far pointer in memory, from the state `u` after the pushes, writes PC and K (R309,
R310). -/
theorem exec_of_goThrough {m : PlainMem} (h : EvenMem s (some (.plain m))) (hi : exec i s = goThrough m s u) :
    exec i s = .next ((u.setPc (s.readByte ((s.plainEa m).byte 1) ++ s.readByte ((s.plainEa m).byte 0))).setK
      (s.readByte ((s.plainEa m).byte 2))) :=
  hi.trans (whenAligned_evenMem h _)

end

/-! ## JP, JPD and JPF (R305, R307, R309, R313) -/

/-- A transfer that pushes nothing stores nothing. -/
theorem memoryKept_of_mem_eq {s t : State} (h : t.mem = s.mem) : MemoryKept [] s t :=
  fun a _ => congrArg (·.read a.toNat) h

section
variable {i : Instr} {a : Src16} {s : State} {k : Byte} (h : EvenMem s a.memory) (hi : exec i s = goTo a k s s)
include h hi

/-- JP and JPD taken: PC and K are written and the operand's pointer steps. -/
theorem jumpTo_ends : ∃ t, exec i s = .next t ∧ DataOnly { s with pcHi := t.pcHi, k := k } t ∧
    RegsAre t 2 a.memory none s ∧ MemoryKept [] s t ∧ t.f = s.f ∧
    t.pc = afterWrite s.params s.pc (s.readSrc16 a) := by
  obtain ⟨t, he, hdata, hregs, hmem, -, hf, hpc⟩ := goTo_ends h (.refl s) hi
  exact ⟨t, he, hdata, hregs, memoryKept_of_mem_eq hmem, hf, hpc⟩

end

/-- JPF to the address in its words (R313). -/
theorem jpfAbs_ends (cond : Cond) (b : Byte) (a : Word) (s : State) :
    ∃ t, exec (.jpfAbs cond b a) s = .next t ∧ t = { s with k := t.k, pcHi := t.pcHi } ∧
      (t.k, t.pc) = if s.f.cond cond then (b, afterWrite s.params s.pc a) else (s.k, s.pc) := by
  refine ⟨_, exec_jpfAbs cond b a s, ?_, ?_⟩
  · split <;> rfl
  · split
    · exact congrArg (Prod.mk b) ((s.setK b).setPc_pc_afterWrite a)
    · rfl

/-- Settles O52: the transfers by `jumpTo_ends`, `jpfAbs_ends` and `exec_of_goThrough`; untaken they are the state
itself. -/
theorem jumps : Obligations.Jumps := by
  refine ⟨fun cond a s => ⟨fun hc => ?_, fun hc h => ⟨?_, ?_⟩⟩,
    fun cond s => ⟨fun b a => jpfAbs_ends cond b a s, fun m hc => ?_, fun m hc h => ?_⟩⟩
  · simp only [exec_jp, execJp, exec_jpd, execJpd, hc]
    exact ⟨rfl, rfl⟩
  · exact jumpTo_ends h ((exec_jp cond a s).trans (if_pos hc))
  · exact jumpTo_ends h ((exec_jpd cond a s).trans (if_pos hc))
  · simp only [exec_jpfMem, execJpfMem, hc]
    rfl
  · exact ⟨_, exec_of_goThrough h ((exec_jpfMem cond m s).trans (if_pos hc)), rfl, rfl, s.setPc_pc_afterWrite _⟩

/-! ## CALLR, CALLRL and CALL (R304, R306, R312) -/

section
variable {s t : State} {v : Word} (hmem : t.mem = (s.push16 v).mem)
include hmem

/-- Whatever has the memory of one push differs from before in the pushed bytes only. -/
theorem memoryKept_of_push16 : MemoryKept (s.pushBytes 1) s t :=
  fun a ha => (congrArg (·.read a.toNat) hmem).trans (s.readByte_push16_other v ha)

/-- Whatever has the stack pointer and the memory of one push has the word on top. -/
theorem top16_of_push16 (hsp : t.spHi = (s.push16 v).spHi) (hc : MemoryCanonical s) : t.top16 = v :=
  (State.top16_congr (congrArg (· ++ 0#1) hsp) hmem).trans (s.push16_top16 hc v)

end

/-- A relative call pushes PCnext and jumps by its even displacement. -/
theorem callBy_ends {i : Instr} {s : State} {d : Word} (hd : d.getLsbD 0 = false)
    (hi : exec i s = .next ((s.push16 s.pc).setPc (s.pc + d))) :
    ∃ t, exec i s = .next t ∧ t = { s with spHi := t.spHi, pcHi := t.pcHi, mem := t.mem } ∧ t.sp = s.sp - 2 ∧
      t.pc = s.pc + d ∧ MemoryKept (s.pushBytes 1) s t ∧ (MemoryCanonical s → t.top16 = s.pc) :=
  ⟨_, hi, rfl, s.push16_sp s.pc, State.setPc_pc_even _ (add_bit0 s.pc_bit0 hd), memoryKept_of_push16 rfl,
    top16_of_push16 rfl rfl⟩

/-- Settles O51: the relative calls by `callBy_ends`, CALL by `goTo_ends` after the push. -/
theorem nearCalls : Obligations.NearCalls := by
  intro s called
  refine ⟨fun p => callBy_ends (wordsAway_bit0 p.toInt) (exec_callr p s),
    fun q => callBy_ends (append_zero_bit0 q) (exec_callrl q s), fun a h => ?_⟩
  obtain ⟨t, he, hdata, hregs, hmem, hsp, hf, hpc⟩ := goTo_ends h ((StackOnly.refl s).push16 _) (exec_call a s)
  have hreg : (s.push16 s.pc).reg16 = (s.setSp (s.sp - 2)).reg16 := funext fun r => State.reg16_congr rfl rfl r
  exact ⟨t, he, hdata, hregs.congr hreg rfl, hf, hpc, memoryKept_of_push16 hmem, top16_of_push16 hmem hsp⟩

/-! ## CALLD, CALLF and RST (R308, R310, R314, R318) -/

/-- A far call pushes the far frame and writes PC and K. -/
theorem farCall_ends {i : Instr} {s : State} {bank : Byte} {off : Word}
    (hi : exec i s = .next (((s.pushFar s.pc).setPc off).setK bank)) :
    ∃ t, exec i s = .next t ∧ t = { s with spHi := t.spHi, pcHi := t.pcHi, k := bank, mem := t.mem } ∧
      t.pc = afterWrite s.params s.pc off ∧ FarFrame s t s.pc := by
  have hp : StackOnly s (s.pushFar s.pc) := ((StackOnly.refl s).push16 _).push16 _
  have hpc := (s.pushFar s.pc).setPc_pc_afterWrite off
  have hframe : FarFrame s (((s.pushFar s.pc).setPc off).setK bank) s.pc := farFrame_of_pushFar rfl rfl
  generalize s.pushFar s.pc = p at *
  unfold StackOnly at hp
  exact ⟨_, hi, by rw [hp]; rfl, hpc.trans (by rw [hp]; rfl), hframe⟩

/-- The entry of RST n in bank $FF (R318). -/
theorem rst_target (n : Byte) : BitVec.ofNat 16 (0xF000 + 16 * n.toNat) = 0xF000 + 16 * n.zeroExtend 16 := by
  bv_omega

/-- The 16-bit registers above a far frame: SP is four lower. -/
theorem State.pushFar_reg16 (s : State) (ret : Word) : (s.pushFar ret).reg16 = (s.setSp (s.sp - 4)).reg16 := by
  have heven : (s.sp - 4).getLsbD 0 = false := s.pushFar_sp ret ▸ (s.pushFar ret).sp_bit0
  have hsp : (s.pushFar ret).sp = (s.setSp (s.sp - 4)).sp := (s.pushFar_sp ret).trans (s.setSp_sp_even heven).symm
  have hregs : (s.pushFar ret).regs = s.regs := rfl
  exact funext (State.reg16_congr (hregs.trans (s.setSp_regs _).symm) (State.spHi_of_sp hsp))

/-- Settles O53: CALLF and RST by `farCall_ends`, CALLD by `goTo_ends` after the pushes. -/
theorem farCalls : Obligations.FarCalls := by
  intro s called
  refine ⟨fun b a => farCall_ends (exec_callfAbs b a s), fun n => ?_,
    fun m h => farCall_ends (exec_of_goThrough h (exec_callfMem m s)), fun a h => ?_⟩
  · have he := exec_rst n s
    rw [execRst, rst_target] at he
    exact farCall_ends he
  · obtain ⟨t, he, hdata, hregs, hmem, hsp, hf, hpc⟩ := goTo_ends h (((StackOnly.refl s).push16 _).push16 _) (exec_calld a s)
    exact ⟨t, he, hdata, hregs.congr (s.pushFar_reg16 s.pc) rfl, hf, hpc, farFrame_of_pushFar hsp hmem⟩

/-! ## RET, RETF and RETI (R315 to R317) -/

section
variable (s : State)

/-- The return of RETF and RETI: PC from the top word, F and K from the two bytes above it (R316). -/
theorem State.leave_fields : s.leave.sp = s.sp + 4 ∧ s.leave.pc = afterWrite s.params s.pc s.top16 ∧
    s.leave.f.toByte = s.readByte (0#8 ++ (s.sp + 2)) ∧ s.leave.k = s.readByte (0#8 ++ (s.sp + 3)) := by
  have hsp : s.popped.popped.sp = s.sp + 4 := by
    rw [State.popped_sp, State.popped_sp, BitVec.add_assoc]
    rfl
  refine ⟨hsp, s.popped.popped.setPc_pc_afterWrite _, ?_, ?_⟩
  · rw [State.leave_f, Flags.toByte_ofByte, State.loByte_top16, State.popped_sp]
    rfl
  · rw [State.leave_k, State.hiByte_top16, State.popped_sp, BitVec.add_assoc]
    rfl

end

/-- The bits of a mask (R317). -/
theorem getLsbD_bitMask {n j : Nat} (hj : j < 8) : (bitMask n).getLsbD j = decide (j = n) := by
  have h : bitMask n = BitVec.ofNat 8 (2 ^ n) := congrArg (BitVec.ofNat 8) (Nat.one_shiftLeft n)
  rw [h, BitVec.getLsbD_ofNat, Nat.testBit_two_pow, decide_eq_true hj, Bool.true_and]
  simp only [eq_comm]

theorem exec_retf_of_cond {cond : Cond} {s : State} (hc : s.f.cond cond = true) :
    exec (.retf cond) s = .next s.leave := by
  simp only [exec_retf, execRetf, hc, if_true]

/-- Settles O54: RET pops one word, RETF and RETI leave as `State.leave_fields` says. -/
theorem returns : Obligations.Returns := by
  intro cond n s far
  refine ⟨fun hc => ?_, fun hc => ⟨?_, ?_⟩, ?_⟩
  · simp only [exec_ret, execRet, exec_retf, execRetf, hc]
    exact ⟨rfl, rfl⟩
  · have he : exec (.ret cond) s = .next (s.popped.setPc s.top16) := by simp only [exec_ret, execRet, hc, if_true]
    exact ⟨_, he, rfl, s.popped_sp, s.popped.setPc_pc_afterWrite _⟩
  · exact ⟨_, exec_retf_of_cond hc, rfl, s.leave_fields⟩
  · refine ⟨_, exec_reti n s, rfl, s.leave_fields, fun j => ?_⟩
    rw [State.setE_e, BitVec.getLsbD_or, getLsbD_bitMask j.isLt, State.leave_e]

end Sys2Proof.Machine

/-! PROOF. The exceptions of spec/60_exceptions.md (R334 to R342): the entries and the returns from them, and which request
a boundary accepts: `Obligations.NmiEntry`, `Obligations.MaskableEntry` and `Obligations.EntryThenReturn`. -/

namespace Sys2Proof.Machine

/-! ## Entry (R334, R340, R341) -/

section
variable (s : State)

/-- An entry pushes the far frame, goes to its target and runs the core; of the flags it writes I alone, and that only
under `IRQ_CLEARS_I` (R334). -/
theorem State.enter_eq (bank : Byte) (off ret : Word) : s.enter bank off ret = { s with
    k := bank, pcHi := (s.enter bank off ret).pcHi, spHi := (s.enter bank off ret).spHi
    mem := (s.enter bank off ret).mem, run := .running
    f := if s.params.irqClearsI then { s.f with i := false } else s.f } := by
  have hp : StackOnly s (s.pushFar ret) := ((StackOnly.refl s).push16 _).push16 _
  unfold State.enter StackOnly at *
  generalize s.pushFar ret = p at *
  rw [hp]
  rfl

/-- The frame of an entry is the far frame (R334). -/
theorem State.enter_farFrame (bank : Byte) (off ret : Word) : FarFrame s (s.enter bank off ret) ret :=
  farFrame_of_pushFar rfl rfl

/-- PC at an even target. -/
theorem State.enter_pc (bank : Byte) {off : Word} (ret : Word) (h : off.getLsbD 0 = false) :
    (s.enter bank off ret).pc = off :=
  State.setPc_pc_even _ h

/-- NMI goes before every maskable request (R338, R341). -/
theorem step_of_nmi {s : State} (hrun : s.run ≠ .stopped) (hreset : s.input.reset = none) (hnmi : s.input.nmi = true) :
    step s = .next s.inputTaken.enterNmi := by
  rw [step_of_no_reset hreset hrun, boundary, if_pos hnmi]

end

/-- Settles O9: the step is the entry at $FF0008. -/
theorem nmiEntry : Obligations.NmiEntry := fun s hrun hreset hnmi =>
  ⟨_, step_of_nmi hrun hreset hnmi, s.inputTaken.enter_pc _ _ rfl, s.inputTaken.enter_farFrame _ _ _,
    s.inputTaken.enter_eq _ _ _⟩

/-! ## Acceptance (R338, R339) -/

/-- Every interrupt has a place in the order. -/
theorem Params.mem_irqOrder (p : Params) (n : Fin 8) : n ∈ p.irqOrder :=
  List.mem_append_right _ (List.mem_finRange n)

/-- A boundary accepts nothing when I is clear or no request is both enabled and pending (R338). -/
theorem State.accepted_eq_none_iff (s : State) (pending : Byte) : s.accepted pending = none ↔
    s.f.i = false ∨ ∀ n : Fin 8, (s.e.getLsbD n && pending.getLsbD n) = false := by
  unfold State.accepted
  cases s.f.i with
  | false => simp
  | true =>
    have hall : (∀ n ∈ s.params.irqOrder, ¬ (s.e.getLsbD n && pending.getLsbD n) = true) ↔
        ∀ n : Fin 8, (s.e.getLsbD n && pending.getLsbD n) = false := by
      simp only [s.params.mem_irqOrder, true_imp_iff, Bool.not_eq_true]
    rw [if_pos rfl, List.find?_eq_none, hall]
    simp

/-- The first member of a list that satisfies `q` is the one before which none in the list does. -/
theorem find?_eq_some_of_idxOf {α : Type} [BEq α] [LawfulBEq α] {q : α → Bool} {l : List α} {n : α} (hn : n ∈ l)
    (hq : q n = true) (hbefore : ∀ m, l.idxOf m < l.idxOf n → q m = false) : l.find? q = some n := by
  induction l with
  | nil => cases hn
  | cons a l ih =>
    by_cases ha : a = n
    · subst ha
      exact List.find?_cons_of_pos hq
    · have hmem : n ∈ l := (List.mem_cons.mp hn).resolve_left (Ne.symm ha)
      have hfirst : q a = false := hbefore a (by simp [List.idxOf_cons_ne _ ha])
      rw [List.find?_cons_of_neg (by simp [hfirst])]
      refine ih hmem fun m hm => ?_
      by_cases hma : a = m
      · exact hma ▸ hfirst
      · exact hbefore m (by simpa [List.idxOf_cons_ne _ ha, List.idxOf_cons_ne _ hma] using hm)

/-- A boundary accepts the request that is enabled and pending and comes before all others that are (R339). -/
theorem State.accepted_eq_some {s : State} {pending : Byte} {n : Fin 8} (hi : s.f.i = true)
    (hn : (s.e.getLsbD n && pending.getLsbD n) = true)
    (hbefore : ∀ m : Fin 8, s.params.irqOrder.idxOf m < s.params.irqOrder.idxOf n →
      (s.e.getLsbD m && pending.getLsbD m) = false) : s.accepted pending = some n := by
  rw [State.accepted, if_pos hi]
  exact find?_eq_some_of_idxOf (s.params.mem_irqOrder n) hn hbefore

/-- The step at an accepted request, when there is no NMI (R338). -/
theorem step_of_accepted {s : State} {n : Fin 8} (hrun : s.run ≠ .stopped) (hreset : s.input.reset = none)
    (hnmi : s.input.nmi = false) (hn : s.accepted s.input.pending = some n) :
    step s = .next (s.inputTaken.enterIrq n) := by
  have hn' : s.inputTaken.accepted s.input.pending = some n := hn
  rw [step_of_no_reset hreset hrun, boundary, hnmi, hn']
  rfl

/-- The entry address of an interrupt is a multiple of eight above $4000 (R340). -/
theorem State.handlerOff_toNat (s : State) (n : Fin 8) : (s.handlerOff n).toNat = 0x4000 + 8 * s.handlers[n].toNat := by
  have := s.handlers[n].isLt
  rw [State.handlerOff, BitVec.toNat_ofNat, Nat.mod_eq_of_lt (by omega)]

theorem State.enterIrq_eq (s : State) (n : Fin 8) :
    s.enterIrq n = (s.enter 0xFF (s.handlerOff n) s.pc).setE (s.e &&& ~~~bitMask n) := by
  rw [State.enterIrq, State.enter_e]

/-- The entry to interrupt n: to its handler, with the far frame, its bit of E cleared and no other (R340). -/
theorem State.enterIrq_ends (s : State) (n : Fin 8) : let t := s.enterIrq n
    t.pc.toNat = 0x4000 + 8 * s.handlers[n].toNat ∧ FarFrame s t s.pc ∧
      (∀ m : Fin 8, t.e.getLsbD m = (s.e.getLsbD m && decide (m ≠ n))) ∧
      t = { s with
        k := 0xFF, pcHi := t.pcHi, spHi := t.spHi, mem := t.mem, run := .running, e := t.e,
        f := if s.params.irqClearsI then { s.f with i := false } else s.f } := by
  have heven : (s.handlerOff n).getLsbD 0 = false := by
    rw [BitVec.getLsbD, s.handlerOff_toNat, Nat.testBit_zero]
    simp
    omega
  have hpc := s.enter_pc 0xFF s.pc heven
  have hframe := s.enter_farFrame 0xFF (s.handlerOff n) s.pc
  have henter := s.enter_eq 0xFF (s.handlerOff n) s.pc
  rw [State.enterIrq_eq]
  generalize s.enter 0xFF (s.handlerOff n) s.pc = u at *
  refine ⟨s.handlerOff_toNat n ▸ congrArg BitVec.toNat hpc, hframe, fun m => ?_, ?_⟩
  · have hm : (bitMask n).getLsbD m = decide (m = n) := by
      rw [getLsbD_bitMask m.isLt]
      simp only [Fin.ext_iff]
    rw [State.setE_e, BitVec.getLsbD_and, BitVec.getLsbD_not, hm, decide_eq_true m.isLt, Bool.true_and, decide_not]
  · rw [henter]
    rfl

/-- Settles O10: the acceptance by the order of the requests, the entry by `State.enterIrq_ends`. -/
theorem maskableEntry : Obligations.MaskableEntry := by
  refine ⟨State.accepted_eq_none_iff, fun p hp => ?_, fun s n hrun hreset hnmi hi he hpending hbefore => ?_⟩
  · simp only [Params.irqOrder, hp, List.nil_append, List.idxOf_finRange, Fin.lt_def, implies_true]
  · exact ⟨_, step_of_accepted hrun hreset hnmi (State.accepted_eq_some hi (by rw [he, hpending]; rfl) hbefore),
      s.inputTaken.enterIrq_ends n⟩

/-! ## Entry and return (R316, R317, R334) -/

/-- The return from a far frame restores all that an entry wrote but memory and E, whatever the entry wrote there. -/
theorem leave_eq_of_farFrame {s u : State} (hc : MemoryCanonical s) (hframe : FarFrame s u s.pc) (hrun : u.run = s.run)
    (hu : u = { s with
      k := u.k, pcHi := u.pcHi, spHi := u.spHi, mem := u.mem, run := u.run, e := u.e, f := u.f }) :
    u.leave = { s with mem := u.mem, e := u.e } := by
  obtain ⟨hsp, -, hread⟩ := hframe
  obtain ⟨hret, hflags, hk⟩ := hread hc
  obtain ⟨hsp', hpc', hf', hk'⟩ := u.leave_fields
  have hspHi : u.leave.spHi = s.spHi := State.spHi_of_sp (by rw [hsp', hsp, BitVec.sub_add_cancel])
  have hpc : u.leave.pc = s.pc := by
    rw [hpc', State.top16, hret, ← State.setPc_pc_afterWrite, State.setPc_pc_even _ s.pc_bit0]
  have hpcHi : u.leave.pcHi = s.pcHi := by
    rw [← extract_high u.leave.pcHi, ← extract_high s.pcHi]
    exact congrArg (BitVec.extractLsb' 1 15) hpc
  have hf : u.leave.f = s.f := by
    rw [← Flags.ofByte_toByte u.leave.f, hf', hflags, Flags.ofByte_toByte]
  have hleave : u.leave = { u with
      spHi := u.leave.spHi, pcHi := u.leave.pcHi, k := u.leave.k, f := u.leave.f } := rfl
  rw [hspHi, hpcHi, hk', hk, hf] at hleave
  rw [hleave, hu, hrun]

/-- A bit cleared and set again is where it was. -/
theorem and_not_or_bitMask {x : Byte} {n : Nat} (h : x.getLsbD n = true) : x &&& ~~~bitMask n ||| bitMask n = x := by
  refine BitVec.eq_of_getLsbD_eq fun j hj => ?_
  rw [BitVec.getLsbD_or, BitVec.getLsbD_and, BitVec.getLsbD_not, getLsbD_bitMask hj, decide_eq_true hj, Bool.true_and]
  by_cases hjn : j = n
  · simp [hjn, h]
  · simp [hjn]

/-- Settles O55: what an entry leaves is the far frame, from which `leave_eq_of_farFrame` returns; RETI sets the bit of E
that the entry cleared. -/
theorem entryThenReturn : Obligations.EntryThenReturn := by
  refine ⟨fun s hc hrun => ?_, fun s n hc hrun he => ?_⟩
  · have hframe := s.enter_farFrame 0xFF 0x0008 s.pc
    have henter := s.enter_eq 0xFF 0x0008 s.pc
    rw [State.enterNmi]
    generalize s.enter 0xFF 0x0008 s.pc = u at *
    have hleave := leave_eq_of_farFrame hc hframe (by rw [henter, hrun]) (by rw [henter])
    obtain ⟨-, hkept, -⟩ := hframe
    refine ⟨?_, hkept⟩
    have he : u.e = s.e := by rw [henter]
    rw [exec_retf_of_cond rfl, hleave, he]
  · obtain ⟨-, hframe, -, hirq⟩ := s.enterIrq_ends n
    have hmask : (s.enterIrq n).e ||| bitMask n = s.e := by
      rw [State.enterIrq_eq, State.setE_e, and_not_or_bitMask he]
    generalize s.enterIrq n = u at *
    have hleave := leave_eq_of_farFrame hc hframe (by rw [hirq, hrun]) (by rw [hirq])
    have hn : (BitVec.ofNat 3 n).toNat = n := Nat.mod_eq_of_lt n.isLt
    obtain ⟨-, hkept, -⟩ := hframe
    refine ⟨?_, hkept⟩
    rw [exec_reti, execReti, hn, hleave, State.setE, hmask]

end Sys2Proof.Machine

/-! PROOF. The external reset (spec/60_exceptions.md R332, log 6): the port accesses of the step that it abandons, and
`Obligations.ExternalReset`. -/

namespace Sys2Proof.Machine

/-! ## Executing adds to the log of port accesses -/

section
variable (s : State)

theorem State.portRead_suffix : s.ioLog <:+ s.portRead.ioLog := by
  rw [s.portRead_eq_afterPortRead]
  exact List.suffix_cons _ _

theorem State.loadPort_suffix (dst : Loc8) (step : Byte) : s.ioLog <:+ (s.loadPort dst step).ioLog := by
  simpa [State.loadPort] using s.portRead_suffix

theorem State.storePort_suffix (src : Src8) (step : Byte) : s.ioLog <:+ (s.storePort src step).ioLog := by
  simp [State.storePort]

theorem State.testPort_suffix (b : BitVec 3) : s.ioLog <:+ (s.testPort b).ioLog := s.portRead_suffix

theorem State.changePort_suffix (op : BitOp) (b : BitVec 3) : s.ioLog <:+ (s.changePort op b).ioLog :=
  (s.testPort_suffix b).trans (List.suffix_cons _ _)

end

/-- The log that an outcome's next state has. -/
theorem suffix_of_next {s t u : State} (h : (.next u : Result) = .next t) (hu : s.ioLog <:+ u.ioLog) :
    s.ioLog <:+ t.ioLog :=
  Host.Outcome.next.inj h ▸ hu

/-- An instruction other than REPI adds its port accesses to the log: those that `systemStateWriters` does not name make
none. -/
theorem exec_suffix {i : Instr} {s t : State} (hi : ¬ IsRepi i) (h : exec i s = .next t) : s.ioLog <:+ t.ioLog := by
  obtain ⟨-, -, -, -, hio, -⟩ := systemStateWriters i s t hi h
  by_cases hlog : t.ioLog = s.ioLog
  · rw [hlog]
  rcases hio hlog with ⟨dst, rfl | rfl | rfl⟩ | ⟨src, rfl | rfl | rfl⟩ | ⟨b, rfl | rfl | rfl⟩ | ⟨r, rfl | rfl | rfl⟩
  · exact suffix_of_next h (s.loadPort_suffix ..)
  · exact suffix_of_next h (s.loadPort_suffix ..)
  · exact suffix_of_next h (s.loadPort_suffix ..)
  · exact suffix_of_next h (s.storePort_suffix ..)
  · exact suffix_of_next h (s.storePort_suffix ..)
  · exact suffix_of_next h (s.storePort_suffix ..)
  · exact suffix_of_next h (s.testPort_suffix ..)
  · exact suffix_of_next h (s.changePort_suffix ..)
  · exact suffix_of_next h (s.changePort_suffix ..)
  · exact suffix_of_next h (s.testPort_suffix ..)
  · exact suffix_of_next h (s.changePort_suffix ..)
  · exact suffix_of_next h (s.changePort_suffix ..)

/-! ## The repetitions that REPI imm reaches (40_misc_system.md R151) -/

/-- Where the repetitions end after a first one that leaves the target's words alone, they end with that one. -/
theorem RepetitionsEnd.succ {i : Instr} {own : List Addr} {s u t : State} {n : Nat} (h : exec i s = .next u)
    (ho : ¬ StoresOver i own s) (ht : RepetitionsEnd i own n u t) : RepetitionsEnd i own (n + 1) s t := by
  obtain ⟨m, hm, hrun, halone, hend⟩ := ht
  refine ⟨m + 1, Nat.succ_le_succ hm, (execTimes_succ_of_next h m).trans hrun, fun l w hl hw => ?_, ?_⟩
  · cases l with
    | zero => cases hw; exact ho
    | succ l => exact halone l w (Nat.lt_of_succ_lt_succ hl) ((execTimes_succ_of_next h l).symm.trans hw)
  · rcases hend with rfl | hstop | ⟨l, w, rfl, hw, hs⟩
    · exact .inl rfl
    · exact .inr (.inl hstop)
    · exact .inr (.inr ⟨l + 1, w, rfl, (execTimes_succ_of_next h l).trans hw, hs⟩)

section
variable {i : Instr} {own : List Addr} {s u : State} {n : Nat} (hr : repeatable i = true)
include hr

theorem repeatReached_of_storesOver (h : exec i s = .next u) (hs : StoresOver i own s) :
    repeatReached i own (n + 1) s = u := by
  rw [← any_contains_iff_storesOver] at hs
  simp only [repeatReached, execTarget_eq_exec i s hr, h, if_pos hs]

theorem repeatReached_of_not_storesOver (h : exec i s = .next u) (hs : ¬ StoresOver i own s) :
    repeatReached i own (n + 1) s = repeatReached i own n u := by
  rw [← any_contains_iff_storesOver] at hs
  simp only [repeatReached, execTarget_eq_exec i s hr, h, if_neg hs]

theorem repeatReached_of_stop (h : ∀ v, exec i s ≠ .next v) : repeatReached i own (n + 1) s = s := by
  unfold repeatReached
  rw [execTarget_eq_exec i s hr]
  split
  · next v hv => exact absurd hv (h v)
  · rfl
  · rfl

theorem repeatReached_suffix (s : State) (n : Nat) : s.ioLog <:+ (repeatReached i own n s).ioLog := by
  induction n generalizing s with
  | zero => exact List.suffix_rfl
  | succ n ih =>
    cases hx : exec i s with
    | next u =>
      have hu : s.ioLog <:+ u.ioLog := exec_suffix (not_isRepi_of_repeatable hr) hx
      by_cases ho : StoresOver i own s
      · rwa [repeatReached_of_storesOver hr hx ho]
      · rw [repeatReached_of_not_storesOver hr hx ho]
        exact hu.trans (ih u)
    | fault e => rw [repeatReached_of_stop hr (by simp [hx])]
    | refused e => rw [repeatReached_of_stop hr (by simp [hx])]

/-- What REPI imm reaches is where its repetitions end (R151; 20_memory.md R93). -/
theorem repetitionsEnd_repeatReached (s : State) (n : Nat) : RepetitionsEnd i own n s (repeatReached i own n s) := by
  have hstop (s : State) (n : Nat) (h : ∀ v, exec i s ≠ .next v) :
      RepetitionsEnd i own (n + 1) s (repeatReached i own (n + 1) s) := by
    rw [repeatReached_of_stop hr h]
    exact ⟨0, Nat.zero_le _, rfl, by simp, .inr (.inl h)⟩
  induction n generalizing s with
  | zero => exact ⟨0, Nat.le_refl _, rfl, by simp, .inl rfl⟩
  | succ n ih =>
    cases hx : exec i s with
    | next u =>
      by_cases ho : StoresOver i own s
      · rw [repeatReached_of_storesOver hr hx ho]
        exact ⟨1, by omega, execTimes_succ_of_next hx 0, by simp, .inr (.inr ⟨0, s, rfl, rfl, ho⟩)⟩
      · rw [repeatReached_of_not_storesOver hr hx ho]
        exact (ih u).succ hx ho
    | fault e => exact hstop s n (by simp [hx])
    | refused e => exact hstop s n (by simp [hx])

end

/-! ## What a step in progress reaches (R332; log 6) -/

section
variable {i j : Instr} {s u : State} {field : BitVec 4}

/-- An entry makes no port access, that to IllegalInstruction too (R335). -/
theorem raiseIllegal_ioLog {addr w : Word} (h : s.raiseIllegal addr w = .next u) : u.ioLog = s.ioLog := by
  unfold State.raiseIllegal at h
  split at h
  · cases h
  · cases h; simp [State.enter, State.pushFar]

theorem execRepiReg_suffix {r : RepReg} (h : execRepiReg r s = .next u) : s.ioLog <:+ u.ioLog := by
  unfold execRepiReg State.withTarget at h
  split at h
  · rw [raiseIllegal_ioLog h]
  · next j _ =>
    split at h
    · next hr =>
      simp only [execTarget_eq_exec j _ hr] at h
      split at h
      · next v hv =>
        cases h
        have hv : s.ioLog <:+ v.ioLog := by simpa using exec_suffix (not_isRepi_of_repeatable hr) hv
        simp only [State.counted]
        split <;> simpa
      · cases h
      · cases h
    · cases h

theorem reached_repiImm (hf : s.fetchAt s.pc = .ok j) (hr : repeatable j = true) :
    reached (.repiImm field) s = repeatReached j (s.codeBytes s.pc j.byteLength) (field.toNat + 2)
      (s.setPc (s.pc + BitVec.ofNat 16 j.byteLength)) := by
  simp only [reached, State.repiImmReached, hf, hr, if_true, repeatCount]

/-- REPI imm over an illegal or a forbidden target repeats nothing (R152). -/
theorem reached_repiImm_of_not_repeatable (h : ∀ j, s.fetchAt s.pc = .ok j → repeatable j = false) :
    reached (.repiImm field) s = s := by
  simp only [reached, State.repiImmReached]
  split
  · rfl
  · next j hj => simp [h j hj]

theorem reached_repiImm_suffix : s.ioLog <:+ (reached (.repiImm field) s).ioLog := by
  by_cases h : ∀ j, s.fetchAt s.pc = .ok j → repeatable j = false
  · rw [reached_repiImm_of_not_repeatable h]
  · obtain ⟨j, hf, hr⟩ : ∃ j, s.fetchAt s.pc = .ok j ∧ repeatable j = true := by simpa using h
    rw [reached_repiImm hf hr]
    simpa using repeatReached_suffix hr (s.setPc (s.pc + BitVec.ofNat 16 j.byteLength)) (field.toNat + 2)

/-- Whatever an instruction reaches, its port accesses came on top of those made before. -/
theorem reached_suffix (i : Instr) (s : State) : s.ioLog <:+ (reached i s).ioLog := by
  by_cases hi : ∃ field, i = .repiImm field
  · obtain ⟨field, rfl⟩ := hi
    exact reached_repiImm_suffix
  · have hi : ∀ field, i ≠ .repiImm field := by simpa using hi
    by_cases h : ∃ u, exec i s = .next u
    · obtain ⟨u, hu⟩ := h
      rw [reached_of_next hi hu]
      by_cases hreg : ∃ r, i = .repiReg r
      · obtain ⟨r, rfl⟩ := hreg
        exact execRepiReg_suffix hu
      · exact exec_suffix (by rintro (hr | ⟨field, rfl⟩); exacts [hreg hr, hi field rfl]) hu
    · rw [reached_of_stop hi (by simpa using h)]

/-- An instruction that ends has made the port accesses of what it reaches. -/
theorem reached_ioLog_of_next (h : exec i s = .next u) : u.ioLog = (reached i s).ioLog := by
  by_cases hi : ∃ field, i = .repiImm field
  · obtain ⟨field, rfl⟩ := hi
    have h : execRepiImm field s = .next u := h
    cases hf : s.fetchAt s.pc with
    | ok j => exact congrArg State.ioLog (repiImmReached_of_next hf h).symm
    | error e =>
      rw [execRepiImm, withTarget_of_illegal hf] at h
      exact (raiseIllegal_ioLog h).trans (congrArg State.ioLog (reached_repiImm_of_not_repeatable (by simp [hf])).symm)
  · rw [reached_of_next (by simpa using hi) h]

/-- An instruction that stops without a repetition has made no port access. -/
theorem reached_ioLog_of_stop (h : ∀ u, exec i s ≠ .next u)
    (hj : ∀ field j, i = .repiImm field → s.fetchAt s.pc = .ok j → repeatable j = false) :
    s.ioLog = (reached i s).ioLog := by
  by_cases hi : ∃ field, i = .repiImm field
  · obtain ⟨field, rfl⟩ := hi
    exact congrArg State.ioLog (reached_repiImm_of_not_repeatable fun j => hj field j rfl).symm
  · rw [reached_of_stop (by simpa using hi) h]

end

/-! ## The step that is abandoned (R332) -/

section
variable {s u r : State} {n : Nat}

/-- What is left of a step depends on what it reached by the log alone. -/
theorem abandonedAfter_of_suffix (h : s.ioLog <:+ r.ioLog) (hu : u.ioLog = r.ioLog) :
    AbandonedAfter n s u (s.abandoned r n).resetEntry := by
  obtain ⟨made, hmade⟩ := h
  have hr : AbandonedAfter n s r (s.abandoned r n).resetEntry := abandonedAfter_resetEntry n hmade.symm
  unfold AbandonedAfter at hr ⊢
  rwa [hu]

theorem State.inProgress_of_fetchAt {b : BoundaryInput} {i : Instr} (hrun : s.run = .running) (hnmi : b.nmi = false)
    (hacc : s.accepted b.pending = none) (hf : s.fetchAt s.pc = .ok i) :
    s.inProgress b = reached i (s.setPc (s.pc + BitVec.ofNat 16 i.byteLength)) := by
  simp only [State.inProgress, hrun, hnmi, hacc, hf, and_self, if_true]

/-- An entry, a core that does not run and an illegal encoding make no port access. -/
theorem State.inProgress_eq_self {b : BoundaryInput} (h : s.run ≠ .running ∨ b.nmi = true ∨
    s.accepted b.pending ≠ none ∨ ∃ e, s.fetchAt s.pc = .error e) : s.inProgress b = s := by
  unfold State.inProgress
  split
  · next hc =>
    obtain ⟨hrun, hnmi, hacc⟩ := hc
    obtain ⟨e, he⟩ : ∃ e, s.fetchAt s.pc = .error e := by simpa [hrun, hnmi, hacc] using h
    rw [he]
  · rfl

theorem State.inProgress_suffix (s : State) (b : BoundaryInput) : s.ioLog <:+ (s.inProgress b).ioLog := by
  unfold State.inProgress
  split
  · split
    · exact List.suffix_rfl
    · next i _ => simpa using reached_suffix i (s.setPc (s.pc + BitVec.ofNat 16 i.byteLength))
  · exact List.suffix_rfl

theorem step_of_reset (h : s.input.reset = some n) :
    step s = .next (s.inputTaken.abandoned (s.inputTaken.inProgress s.input) n).resetEntry := by
  simp only [step, takeStep, h]

end

/-- Settles O12: the reset fields by `State.resetEntry`; of the step in progress its last state is what `reached` gives
(`State.inProgress_of_fetchAt`), or nothing was begun (`State.inProgress_eq_self`), and only its log of port accesses
counts (`abandonedAfter_of_suffix`). -/
theorem externalReset : Obligations.ExternalReset := by
  intro s n hreset
  have hleft {u : State} (hu : u.ioLog = (s.inputTaken.inProgress s.input).ioLog) :
      AbandonedAfter n s u (s.inputTaken.abandoned (s.inputTaken.inProgress s.input) n).resetEntry :=
    abandonedAfter_of_suffix (s.inputTaken.inProgress_suffix s.input) hu
  refine ⟨_, step_of_reset hreset, rfl, State.resetEntry_pc _, rfl, rfl, rfl, rfl, rfl, rfl, rfl,
    fun h => hleft (congrArg State.ioLog (s.inputTaken.inProgress_eq_self h)).symm, fun i hrun hnmi hacc hf => ?_⟩
  have hp : s.inputTaken.inProgress s.input = reached i (s.inputTaken.setPc (s.pc + BitVec.ofNat 16 i.byteLength)) :=
    State.inProgress_of_fetchAt hrun hnmi hacc hf
  refine ⟨fun u hu => hleft ?_, fun hstop hj => hleft ?_, fun field j hi hf' hr => ⟨_, ?_, hleft rfl⟩⟩
  · rw [hp]
    exact reached_ioLog_of_next hu
  · rw [hp, ← reached_ioLog_of_stop hstop hj]
    simp [State.inputTaken]
  · subst hi
    rw [hp, reached_repiImm hf' hr]
    exact repetitionsEnd_repeatReached hr _ _

end Sys2Proof.Machine
